-- ==== Sys2Proof/Word.lean ====
section
/-! DEFINITION. The word types of the MH-24: a byte of the link, a 16-bit word, a 32-bit word. -/

namespace Sys2Proof

/-- One character of the link, and one byte of a payload (R170, R192). -/
abbrev Byte := BitVec 8

/-- A 16-bit number that wraps or is sent as two bytes: a sequence number, a detail, a CRC (R107, R158, R173). -/
abbrev Word16 := BitVec 16

/-- A 32-bit number that wraps: the scan clock in milliseconds (R80). -/
abbrev Word32 := BitVec 32

end Sys2Proof
end

