-- ==== Sys2Proof/Syntax.lean ====
section
/-! DEFINITION. The commands of the MH-24: one constructor for each row of the table of operations and events.

A request row (CHANNEL_SET, START, ...) has no operand of its own: it is the request processor's handling of the
frame at the oldest end of the inbound request queue (R179), and its token and payload are the ones that stand in
that frame, which GOOD_CHARACTER commands have put there. A row that brings something in from outside the part
carries it: a character, the levels of the rate straps, the mean input of an INTEGRATE phase. -/

namespace Sys2Proof

/-- What an OHMS conversion finds between the point's high and low inputs over INTEGRATE (R28, R32). -/
inductive OhmsInput where
  /-- a resistance, in hundredths of an ohm, exact -/
  | resistance (centiohms : Rat)
  /-- an open point -/
  | openPoint
  /-- a point driven from outside so strongly against the excitation that the mean voltage across it is below zero -/
  | drivenAgainst
  deriving DecidableEq, Repr

/-- The mean input over one INTEGRATE phase (R28): the voltage from the high input to the low input in microvolts,
which a VOLT or CURR conversion measures, and the resistance side, which an OHMS conversion measures. -/
structure MeanInput where
  microvolts : Rat
  ohms : OhmsInput
  deriving DecidableEq, Repr

/-- The commands: one constructor per row of the table of operations and events. -/
inductive Instr where
  -- requests taken from the inbound request queue and executed (R179, R181)
  | identify
  | status
  | restart
  | channelSet
  | channelGet
  | channelOff
  | listClear
  | listAppend
  | listRead
  | scanSet
  | start
  | stop
  | pause
  | resume
  | trigger
  | fetch
  | streamOn
  | streamOff
  | ack
  | events
  | subscribe
  | modeFollow
  | modeLatched
  | clearLatch
  -- frames taken from the inbound request queue and answered without being executed (R180, R182)
  | unknownKind
  | badToken
  | repeatCacheMatch
  -- the receiver (R175 to R177)
  /-- a character with a high stop bit, and its eight data bits -/
  | goodCharacter (b : Byte)
  | damagedCharacter
  | gapTimerExpiry
  -- the transmitter (R184, R185)
  | sendReply
  | eventReport
  | resultReport
  | frameSent
  -- reset (R190)
  /-- RESET_N is low, with the levels of RATE1 and RATE0 sampled while it is low -/
  | resetNLow (rate1 rate0 : Bool)
  | resetNHigh
  /-- power-up, with the levels of RATE1 and RATE0 read then -/
  | powerUp (rate1 rate0 : Bool)
  -- the TRIG input (R85)
  | trigEdge
  -- the converter (R27 to R33)
  | zeroEnd
  /-- the INTEGRATE phase ends, and this was the mean input over it -/
  | integrateEnd (input : MeanInput)
  | deintegrateCrossing
  | deintegrateLimit
  -- the matrix (R44)
  | breakEnd
  | settleEnd
  -- the rail (R52 to R54)
  | railInsideWindow
  | startTimeout
  | drop
  | holdExpiry
  -- the sequencer's own events and the stream's timer (R80, R82, R83, R134)
  | passStart
  | paceTimerExpiry
  | scanClockWrap
  | retransmitExpiry
  deriving DecidableEq, Repr

end Sys2Proof
end

