-- ==== Sys2Proof/Config.lean ====
section
/-! DEFINITION. What the guide fixes once for the part: times in converter ticks, depths, and the fixed identity.
The guide leaves no value of a command's result open, so there is no free value here. -/

namespace Sys2Proof.Config

/-- One tick is 25 µs, so 40 ticks make one millisecond (R23). -/
def ticksPerMs : Nat := 40

/-- The break-before-make wait of 1 ms, in ticks (R42). -/
def breakTicks : Nat := 1 * ticksPerMs

/-- The rail's start window of 30 ms, in ticks (R52). -/
def startWindowTicks : Nat := 30 * ticksPerMs

/-- The rail's hold time of 2000 ms, in ticks (R54). -/
def holdTicks : Nat := 2000 * ticksPerMs

/-- The retransmit time of 250 ms, in ticks (R134). -/
def retransmitTicks : Nat := 250 * ticksPerMs

/-- The receiver's gap limit of 10 ms, in ticks (R177). -/
def gapTicks : Nat := 10 * ticksPerMs

/-- The result queue's list holds at most 128 records (R110). -/
def queueDepth : Nat := 128

/-- The scan list holds at most 64 steps (R73). -/
def listDepth : Nat := 64

/-- The inbound request queue holds at most 4 frames (R178). -/
def inboundDepth : Nat := 4

/-- The reply queue holds at most 4 replies (R178). -/
def replyDepth : Nat := 4

/-- The largest stream window W (R125, R186). -/
def maxWindow : Nat := 8

/-- The consecutive timeout that stalls the stream (R134). -/
def stallTimeouts : Nat := 8

/-- A RESULT report and a FETCH carry at most three records (R120, R131). -/
def recordsPerFrame : Nat := 3

/-- The number of range changes range control may make within one sample (R64). -/
def maxChanges : Nat := 4

/-- The down threshold on the reported count: counts of smaller magnitude ask for a lower range (R62). -/
def downThreshold : Nat := 360

/-- The vendor code of IDENTIFY (R186). -/
def vendorCode : Nat := 0x3A17

/-- The part code of IDENTIFY (R186). -/
def partCode : Nat := 0x0B24

/-- The revision of IDENTIFY (R186). -/
def revision : Nat := 0x02

end Sys2Proof.Config
end

