-- ==== Sys2Proof/Machine/State.lean ====
section
/-! DEFINITION. The state of the MH-24, block by block, as plain data, and the state after reset. -/

namespace Sys2Proof.Machine

/-! ## The Channel Table (chapter 1) -/

/-- What a channel measures (R2). -/
inductive MeasFunction where
  | volt
  | curr
  | ohms
  deriving DecidableEq, Repr

/-- The integration mode (R6). -/
inductive Mode where
  | normal
  | fast
  deriving DecidableEq, Repr

/-- The range setting of a channel: a fixed range index, or AUTO (R4). -/
inductive RangeSetting where
  | fixed (range : Nat)
  | auto
  deriving DecidableEq, Repr

/-- The limit window of a channel, in the normalized unit of its function (R8). -/
structure Window where
  low : Int
  high : Int
  hysteresis : Nat
  deriving DecidableEq, Repr

/-- The trip state of a channel (R11). -/
inductive TripState where
  | clear
  | tripped
  deriving DecidableEq, Repr

/-- A channel record: six settings and two working fields (R1). -/
structure Channel where
  enabled : Bool
  function : MeasFunction
  range : RangeSetting
  mode : Mode
  /-- the settle time in ms, 0 to 250 (R7) -/
  settle : Nat
  window : Option Window
  /-- the remembered range (R10) -/
  remembered : Nat
  trip : TripState
  deriving DecidableEq, Repr

/-- The starting state of every channel record (R12). -/
def Channel.reset : Channel :=
  { enabled := false, function := .volt, range := .auto, mode := .normal, settle := 5, window := none,
    remembered := 3, trip := .clear }

/-! ## The Integrating Converter (chapter 2) -/

/-- The converter's phase (R22). -/
inductive ConvPhase where
  | idle
  | zero
  | integrate
  | deintegrate
  deriving DecidableEq, Repr

/-- The polarity judged at the end of INTEGRATE (R29). -/
inductive Polarity where
  | positive
  | negative
  deriving DecidableEq, Repr

/-- The converter (R22). `offsetStored` and `crossing` are state the guide only implies: the offset that ZERO leaves
behind (R27), and the charge that INTEGRATE leaves on the integrator (R30), kept as the tick of DEINTEGRATE at which
the comparator will cross, or none when it will not cross before the limit. -/
structure Converter where
  phase : ConvPhase
  /-- ticks of the current phase -/
  ticks : Nat
  function : Option MeasFunction
  mode : Option Mode
  polarity : Polarity
  rawCount : Int
  offsetStored : Bool
  crossing : Option Nat
  deriving DecidableEq, Repr

/-- The converter in IDLE (R22). -/
def Converter.idle : Converter :=
  { phase := .idle, ticks := 0, function := none, mode := none, polarity := .positive, rawCount := 0,
    offsetStored := false, crossing := none }

/-! ## The Switch Matrix (chapter 3) -/

/-- The matrix's phase (R40): OPEN, BREAK, SETTLE or CONNECTED. -/
inductive MatrixPhase where
  | opened
  | breaking
  | settling
  | connected
  deriving DecidableEq, Repr

/-- The target of a connection (R40, R42). -/
structure Target where
  channel : Fin 24
  function : MeasFunction
  range : Nat
  /-- settle time in ms -/
  settle : Nat
  deriving DecidableEq, Repr

/-- The switch matrix (R40). The target is kept through CONNECTED as well: R49 has the matrix hold it until the
connection is abandoned or broken. -/
structure Matrix where
  phase : MatrixPhase
  /-- the connected channel -/
  channel : Option (Fin 24)
  /-- the selected function and range -/
  selection : Option (MeasFunction × Nat)
  excitation : Bool
  target : Option Target
  /-- the phase timer, in ticks; R40 has it measure BREAK and SETTLE only, and in OPEN and CONNECTED the model holds it
  at 0 (DESIGN CHOICE, log entry 17) -/
  timer : Nat
  deriving DecidableEq, Repr

/-- The matrix in OPEN (R40), which is its reset state. DESIGN CHOICE (log entry 17): the phase timer, to which R40 gives
no value outside BREAK and SETTLE, is 0. -/
def Matrix.opened : Matrix :=
  { phase := .opened, channel := none, selection := none, excitation := false, target := none, timer := 0 }

/-! ## The Analog Rail (chapter 3) -/

/-- The rail's state (R50). -/
inductive RailState where
  | off
  | starting
  | ready
  | fault
  deriving DecidableEq, Repr

/-- The cause of a rail fault (R50). -/
inductive RailCause where
  | startTimeout
  | drop
  deriving DecidableEq, Repr

/-- The analog rail (R50). A timer that is none is stopped; a running one counts ticks. -/
structure Rail where
  state : RailState
  startTimer : Option Nat
  holdTimer : Option Nat
  cause : Option RailCause
  deriving DecidableEq, Repr

/-- The rail in OFF (R50). -/
def Rail.off : Rail := { state := .off, startTimer := none, holdTimer := none, cause := none }

/-! ## Range control (chapter 4) -/

/-- Range control's state for the sample being measured (R59). While no sample is being measured the sample range and the
change count have no meaning (R59, R66); that they then read none and 0 is a DESIGN CHOICE (log entry 18). -/
structure Ranging where
  sampleRange : Option Nat
  changes : Nat
  /-- the step lock of a MEAN step -/
  lock : Option Nat
  deriving DecidableEq, Repr

/-- No sample state: the values of reset and RESTART (R59), and those left where it is discarded (R71, R72). That the
change count then reads 0 too is a DESIGN CHOICE (log entry 18). -/
def Ranging.dropped : Ranging := { sampleRange := none, changes := 0, lock := none }

/-! ## The Scan Sequencer (chapter 5) -/

/-- A step of the scan list (R73). -/
structure Step where
  channel : Fin 24
  samples : Nat
  mean : Bool
  mark : Bool
  deriving DecidableEq, Repr

/-- The pace (R77). -/
inductive Pace where
  | free
  | timed
  | triggered
  deriving DecidableEq, Repr

/-- The admission policy (R77). -/
inductive Policy where
  | stall
  | dropOldest
  | dropNewest
  deriving DecidableEq, Repr

/-- The scan settings (R77). -/
structure Settings where
  pace : Pace
  /-- ms, used by TIMED -/
  interval : Nat
  /-- 0 for unlimited -/
  passes : Nat
  policy : Policy
  deriving DecidableEq, Repr

/-- The reset values of the scan settings (R77). -/
def Settings.reset : Settings := { pace := .free, interval := 1000, passes := 1, policy := .stall }

/-- The scan state (R78). -/
inductive ScanState where
  | idle
  | armed
  | running
  | pausing
  | paused
  | held
  | faulted
  deriving DecidableEq, Repr

/-- The continuation: what the sequencer does next within the pass (R78). -/
inductive Continuation where
  | measure
  | nextSample
  | redoStep
  | nextStep
  | endPass
  deriving DecidableEq, Repr

/-- The resume point, held while PAUSED (R78). -/
inductive ResumePoint where
  | toArmed
  | within (c : Continuation)
  deriving DecidableEq, Repr

/-- The MEAN accumulator (R78). -/
structure MeanAcc where
  sum : Int
  overrange : Bool
  hunt : Bool
  deriving DecidableEq, Repr

/-- The empty accumulator (R78). -/
def MeanAcc.empty : MeanAcc := { sum := 0, overrange := false, hunt := false }

/-- What the sequencer keeps besides the list and the settings (R78). -/
structure Sequencer where
  scan : ScanState
  /-- pass number, 0 to 65535 -/
  pass : Nat
  step : Nat
  sample : Nat
  passesDone : Nat
  /-- the continuation (R78); none in IDLE, ARMED, PAUSED and FAULTED (log entry 19) -/
  cont : Option Continuation
  resume : Option ResumePoint
  acc : MeanAcc
  redo : Bool
  /-- the pace timer in ticks, none when stopped -/
  paceTimer : Option Nat
  paceDue : Bool
  /-- the scan clock at the last pass start -/
  passStart : Word32
  /-- the trigger latch -/
  latch : Bool
  /-- the scan clock in ms (R80) -/
  clockMs : Word32
  /-- the ticks of the scan clock's current ms -/
  clockTicks : Fin 40
  deriving DecidableEq, Repr

/-- The sequencer after reset (R78). -/
def Sequencer.reset : Sequencer :=
  { scan := .idle, pass := 0, step := 0, sample := 0, passesDone := 0, cont := none, resume := none,
    acc := .empty, redo := false, paceTimer := none, paceDue := false, passStart := 0, latch := false,
    clockMs := 0, clockTicks := 0 }

/-! ## Records, the Result Queue and the stream (chapters 6 and 7) -/

/-- The flags of a record (R105). -/
structure RecordFlags where
  overrange : Bool
  hunt : Bool
  fast : Bool
  mean : Bool
  skipped : Bool
  redone : Bool
  trip : Bool
  deriving DecidableEq, Repr

/-- A result record (R104). The function of a skipped step is none, sent as 0. -/
structure Record where
  seq : Word16
  pass : Nat
  step : Nat
  channel : Fin 24
  sample : Nat
  function : Option MeasFunction
  range : Nat
  flags : RecordFlags
  count : Int
  value : Int
  time : Word32
  deriving DecidableEq, Repr

/-- A record in the list, with its sent mark (R125). -/
structure Queued where
  record : Record
  sent : Bool
  deriving DecidableEq, Repr

/-- The result queue: its list, oldest first, its staging slot and the next-sequence counter (R107, R110). -/
structure ResultQueue where
  list : List Queued
  staged : Option Record
  nextSeq : Word16
  deriving DecidableEq, Repr

/-- The queue after reset (R123). -/
def ResultQueue.reset : ResultQueue := { list := [], staged := none, nextSeq := 0 }

/-- The stream state (R125). -/
inductive StreamState where
  | off
  | on
  | stalled
  deriving DecidableEq, Repr

/-- The stream side of the queue (R125); the sent marks stand with the records in the list. -/
structure Stream where
  state : StreamState
  /-- the window W -/
  window : Nat
  /-- the in-flight count k -/
  inFlight : Nat
  /-- the retransmit timer in ticks, none when stopped -/
  timer : Option Nat
  /-- the consecutive-timeout count -/
  timeouts : Nat
  deriving DecidableEq, Repr

/-- The stream after reset (R125). -/
def Stream.reset : Stream := { state := .off, window := 4, inFlight := 0, timer := none, timeouts := 0 }

/-! ## The Limit Monitor (chapter 8) -/

/-- The line mode (R144). -/
inductive LineMode where
  | follow
  | latched
  deriving DecidableEq, Repr

/-- The limit monitor's own state (R144). -/
structure LimitMonitor where
  /-- the trip latch -/
  latch : Bool
  mode : LineMode
  /-- the level of the TRIP output: true is asserted (high) -/
  line : Bool
  deriving DecidableEq, Repr

/-- The limit monitor after reset (R144). -/
def LimitMonitor.reset : LimitMonitor := { latch := false, mode := .latched, line := false }

/-! ## The Event Table (chapter 9) -/

/-- The nine event kinds, numbered 1 to 9 in this order (R159). -/
inductive EventKind where
  | scanDone
  | passDone
  | trip
  | tripCleared
  | paceOverrun
  | railFault
  | streamStalled
  | queueLoss
  | mark
  deriving DecidableEq, Repr

/-- One entry of the event table (R158). -/
structure EventEntry where
  pending : Bool
  count : Nat
  detail : Word16
  due : Bool
  deriving DecidableEq, Repr

/-- An entry that is not pending (R158). -/
def EventEntry.empty : EventEntry := { pending := false, count := 0, detail := 0, due := false }

/-- The event table: nine entries, and the subscription set as the mask of R192 (bit n is kind n). -/
structure EventTable where
  scanDone : EventEntry
  passDone : EventEntry
  trip : EventEntry
  tripCleared : EventEntry
  paceOverrun : EventEntry
  railFault : EventEntry
  streamStalled : EventEntry
  queueLoss : EventEntry
  mark : EventEntry
  subscription : Word16
  deriving DecidableEq, Repr

/-- Nine empty entries with a given subscription set (R158). -/
def EventTable.cleared (subscription : Word16) : EventTable :=
  { scanDone := .empty, passDone := .empty, trip := .empty, tripCleared := .empty, paceOverrun := .empty,
    railFault := .empty, streamStalled := .empty, queueLoss := .empty, mark := .empty,
    subscription := subscription }

/-! ## The Message Link (chapter 10) and the pins -/

/-- A frame's content: KIND, TOKEN and payload (R172). -/
structure Frame where
  kind : Byte
  token : Byte
  payload : List Byte
  deriving DecidableEq, Repr

/-- The receiver's state with its frame under assembly (R174): the bytes of KIND, TOKEN and payload received so far,
and the CRC bytes received so far. -/
inductive Receiver where
  | hunt
  | length
  | body (len : Nat) (got : List Byte)
  | check (len : Nat) (got : List Byte) (crc : List Byte)
  deriving DecidableEq, Repr

/-- The message link (R174, R178, R182, R184). -/
structure Link where
  receiver : Receiver
  /-- the gap timer in ticks, none when stopped -/
  gapTimer : Option Nat
  framingCount : Nat
  checkCount : Nat
  overflowCount : Nat
  /-- the inbound request queue, oldest first -/
  inbound : List Frame
  /-- the reply queue, oldest first -/
  replies : List Frame
  /-- the repeat cache: the last executed request and its reply -/
  cache : Option (Frame × Frame)
  /-- the transmitter: the bytes on the wire of the frame being sent, none when idle -/
  sending : Option (List Byte)
  deriving DecidableEq, Repr

/-- The link after reset (R174, R178, R182, R184). -/
def Link.reset : Link :=
  { receiver := .hunt, gapTimer := none, framingCount := 0, checkCount := 0, overflowCount := 0, inbound := [],
    replies := [], cache := none, sending := none }

/-- The four link rates (R171). -/
inductive Rate where
  | baud57600
  | baud115200
  | baud230400
  | baud460800
  deriving DecidableEq, Repr

/-- The pins that hold a level: RESET_N (held low), the straps last sampled while it was low, and the link rate in
use (R171, R190). The TRIP output is the limit monitor's line. -/
structure Pins where
  resetLow : Bool
  rate1 : Bool
  rate0 : Bool
  rate : Rate
  deriving DecidableEq, Repr

/-- The pins right after reset. DESIGN CHOICE (log entry 1): the straps are read as low and low, which selects 57600
baud; the guide gives the straps no value of their own. -/
def Pins.reset : Pins := { resetLow := false, rate1 := false, rate0 := false, rate := .baud57600 }

/-! ## The whole part -/

/-- The state of the MH-24: every block of the guide, and the queue of the commands that wait. -/
structure State where
  pins : Pins
  table : Vector Channel 24
  conv : Converter
  matrix : Matrix
  rail : Rail
  ranging : Ranging
  list : List Step
  settings : Settings
  seq : Sequencer
  queue : ResultQueue
  stream : Stream
  limit : LimitMonitor
  events : EventTable
  link : Link
  /-- the commands that wait, first in, first out; the model's own field -/
  pending : List Instr
  deriving DecidableEq, Repr

/-- The part right after reset (R190): every block in its reset state. -/
def State.reset : State :=
  { pins := .reset, table := Vector.replicate 24 Channel.reset, conv := .idle, matrix := .opened, rail := .off,
    ranging := .dropped, list := [], settings := .reset, seq := .reset, queue := .reset, stream := .reset,
    limit := .reset, events := .cleared 0, link := .reset, pending := [] }

/-! ## Replacing one block -/

/-- The state with the pins replaced. -/
def State.withPins (s : State) (x : Pins) : State := { s with pins := x }

/-- The state with the channel table replaced. -/
def State.withTable (s : State) (x : Vector Channel 24) : State := { s with table := x }

/-- The state with the converter replaced. -/
def State.withConv (s : State) (x : Converter) : State := { s with conv := x }

/-- The state with the switch matrix replaced. -/
def State.withMatrix (s : State) (x : Matrix) : State := { s with matrix := x }

/-- The state with the analog rail replaced. -/
def State.withRail (s : State) (x : Rail) : State := { s with rail := x }

/-- The state with range control replaced. -/
def State.withRanging (s : State) (x : Ranging) : State := { s with ranging := x }

/-- The state with the scan list replaced. -/
def State.withList (s : State) (x : List Step) : State := { s with list := x }

/-- The state with the scan settings replaced. -/
def State.withSettings (s : State) (x : Settings) : State := { s with settings := x }

/-- The state with the sequencer replaced. -/
def State.withSeq (s : State) (x : Sequencer) : State := { s with seq := x }

/-- The state with the result queue replaced. -/
def State.withQueue (s : State) (x : ResultQueue) : State := { s with queue := x }

/-- The state with the stream side replaced. -/
def State.withStream (s : State) (x : Stream) : State := { s with stream := x }

/-- The state with the limit monitor replaced. -/
def State.withLimit (s : State) (x : LimitMonitor) : State := { s with limit := x }

/-- The state with the event table replaced. -/
def State.withEvents (s : State) (x : EventTable) : State := { s with events := x }

/-- The state with the message link replaced. -/
def State.withLink (s : State) (x : Link) : State := { s with link := x }

/-- The state with the waiting commands replaced. -/
def State.withPending (s : State) (x : List Instr) : State := { s with pending := x }

/-! ## How a step can stop -/

/-- The faults. The guide describes every command's effect in every state, so no meaning of this model stops. -/
inductive Fault where
  /-- Raised by no meaning: the guide names no condition on which the part stops. It keeps the type inhabited, and
  it is safe (a model that never raises it claims nothing by it). -/
  | neverRaised
  deriving DecidableEq, Repr

/-- The refusals. -/
inductive Refusal where
  /-- A command whose meaning is not written yet; no arm of exec answers it. Safe: it stops instead of going on. -/
  | notModelled (mnemonic : String)
  deriving DecidableEq, Repr

end Sys2Proof.Machine
end

