-- ==== Sys2Proof/Machine/Operands.lean ====
section
/-! DEFINITION. The encodings of every field that travels on the link (chapter 11), the frame and its CRC (R172, R173),
and the range tables (R3). -/

namespace Sys2Proof.Machine

/-! ## Numbers (R192): two and four bytes, high byte first -/

/-- The low eight bits of a number. -/
def byteOf (n : Nat) : Byte := BitVec.ofNat 8 n

/-- A two-byte unsigned field, high byte first (R192). -/
def bytes16 (n : Nat) : List Byte := [byteOf (n / 256), byteOf n]

/-- A four-byte unsigned field, high byte first (R192). -/
def bytes32 (n : Nat) : List Byte := [byteOf (n / 16777216), byteOf (n / 65536), byteOf (n / 256), byteOf n]

/-- A two-byte signed field, two's complement (R192). -/
def signedBytes16 (i : Int) : List Byte := bytes16 (BitVec.ofInt 16 i).toNat

/-- A four-byte signed field, two's complement (R192). -/
def signedBytes32 (i : Int) : List Byte := bytes32 (BitVec.ofInt 32 i).toNat

/-- The byte at a payload offset. -/
def field8 (p : List Byte) (off : Nat) : Nat := (p.getD off 0).toNat

/-- The two-byte unsigned field at a payload offset (R192). -/
def field16 (p : List Byte) (off : Nat) : Nat := field8 p off * 256 + field8 p (off + 1)

/-- The four-byte unsigned field at a payload offset (R192). -/
def field32 (p : List Byte) (off : Nat) : Nat := field16 p off * 65536 + field16 p (off + 2)

/-- The four-byte signed field at a payload offset (R192). -/
def signedField32 (p : List Byte) (off : Nat) : Int := (BitVec.ofNat 32 (field32 p off)).toInt

/-- A yes-or-no byte (R192). -/
def boolByte (b : Bool) : Byte := if b then 1 else 0

/-! ## Enumerations (R192) -/

/-- The function code (R192). -/
def MeasFunction.code : MeasFunction → Nat
  | .volt => 1
  | .curr => 2
  | .ohms => 3

/-- The function a request byte names (R192). -/
def MeasFunction.ofCode : Nat → Option MeasFunction
  | 1 => some .volt
  | 2 => some .curr
  | 3 => some .ohms
  | _ => none

/-- The code of the mode (R192). -/
def Mode.code : Mode → Nat
  | .normal => 0
  | .fast => 1

/-- The mode a request byte names (R192). -/
def Mode.ofCode : Nat → Option Mode
  | 0 => some .normal
  | 1 => some .fast
  | _ => none

/-- The code of the range setting (R192). -/
def RangeSetting.code : RangeSetting → Nat
  | .fixed r => r
  | .auto => 0x80

/-- The code of the trip state (R192). -/
def TripState.code : TripState → Nat
  | .clear => 0
  | .tripped => 1

/-- The pace a request byte names (R192). -/
def Pace.ofCode : Nat → Option Pace
  | 0 => some .free
  | 1 => some .timed
  | 2 => some .triggered
  | _ => none

/-- The admission policy a request byte names (R192). -/
def Policy.ofCode : Nat → Option Policy
  | 0 => some .stall
  | 1 => some .dropOldest
  | 2 => some .dropNewest
  | _ => none

/-- The code of the scan state (R192). -/
def ScanState.code : ScanState → Nat
  | .idle => 0
  | .armed => 1
  | .running => 2
  | .pausing => 3
  | .paused => 4
  | .held => 5
  | .faulted => 6

/-- The code of the rail state (R192). -/
def RailState.code : RailState → Nat
  | .off => 0
  | .starting => 1
  | .ready => 2
  | .fault => 3

/-- The code of the stream state (R192). -/
def StreamState.code : StreamState → Nat
  | .off => 0
  | .on => 1
  | .stalled => 2

/-- The code of the line mode (R192). -/
def LineMode.code : LineMode → Nat
  | .follow => 0
  | .latched => 1

/-- The detail of RAIL_FAULT (R50): 1 for START_TIMEOUT, 2 for DROP. -/
def RailCause.detail : RailCause → Word16
  | .startTimeout => 1
  | .drop => 2

/-- The rate the strap levels select (R171). -/
def Rate.ofStraps (rate1 rate0 : Bool) : Rate :=
  match rate1, rate0 with
  | false, false => .baud57600
  | false, true => .baud115200
  | true, false => .baud230400
  | true, true => .baud460800

/-- The outcome byte of a reply (R181). -/
inductive ReplyOutcome where
  | done
  | badLength
  | badValue
  | noChannel
  | busy
  | listFull
  | listEmpty
  | wrongMode
  | seqRange
  | unknownKind
  | badToken
  deriving DecidableEq, Repr

/-- The outcome's byte (R181). -/
def ReplyOutcome.byte : ReplyOutcome → Byte
  | .done => 0x00
  | .badLength => 0x01
  | .badValue => 0x02
  | .noChannel => 0x03
  | .busy => 0x04
  | .listFull => 0x05
  | .listEmpty => 0x06
  | .wrongMode => 0x07
  | .seqRange => 0x08
  | .unknownKind => 0x09
  | .badToken => 0x0A

/-! ## The request kinds (R193) -/

/-- The 21 request kinds (R193). -/
def requestKinds : List Byte :=
  [0x01, 0x02, 0x03, 0x10, 0x11, 0x12, 0x18, 0x19, 0x1A, 0x20, 0x21, 0x22, 0x23, 0x24, 0x25, 0x28, 0x29, 0x2A,
   0x30, 0x31, 0x32]

/-- Whether a KIND is a request kind (R179). -/
def isRequestKind (k : Byte) : Bool := requestKinds.contains k

/-- The kind of the reply to a request kind (R172). -/
def replyKind (k : Byte) : Byte := k + 0x80

/-! ## The range tables (R3) -/

/-- The highest range of a function (R3). -/
def highestRange : MeasFunction → Nat
  | .volt => 3
  | .curr => 1
  | .ohms => 4

/-- The unit per count of a function and range (R3); an index past the table reads its last row. -/
def unitPerCount : MeasFunction → Nat → Nat
  | .volt, 0 => 50
  | .volt, 1 => 500
  | .volt, 2 => 5000
  | .volt, _ => 50000
  | .curr, 0 => 5
  | .curr, _ => 50
  | .ohms, 0 => 5
  | .ohms, 1 => 50
  | .ohms, 2 => 500
  | .ohms, 3 => 5000
  | .ohms, _ => 50000

/-- The full scale of a function and range, in the unit of its normalized value: 4000 counts (R3). -/
def fullScale (f : MeasFunction) (r : Nat) : Nat := 4000 * unitPerCount f r

/-- The normalized value of a reported count (R5). -/
def normalized (f : MeasFunction) (r : Nat) (count : Int) : Int := count * (unitPerCount f r : Int)

/-! ## The channel record (R194) -/

/-- The settings a CHANNEL_SET carries besides the channel number (R14, R194). -/
structure ChannelSettings where
  function : MeasFunction
  range : RangeSetting
  mode : Mode
  settle : Nat
  window : Option Window
  deriving DecidableEq, Repr

/-- The conditions on a present window (R8): exact whole numbers. -/
def windowLegal (w : Window) : Bool :=
  decide (w.low ≤ w.high) && decide (w.hysteresis ≤ 16000000) && decide (2 * (w.hysteresis : Int) ≤ w.high - w.low)

/-- The range setting a byte names for a function: 80h, or an index up to the function's highest range (R4, R192). -/
def decodeRange (f : MeasFunction) (b : Nat) : Option RangeSetting :=
  if b = 0x80 then some .auto else if b ≤ highestRange f then some (.fixed b) else none

/-- The window a CHANNEL_SET carries: none when the field values are refused (R8, R14, R194). -/
def decodeWindow (p : List Byte) : Option (Option Window) :=
  match field8 p 5 with
  | 0 => some none
  | 1 =>
    let w : Window := { low := signedField32 p 6, high := signedField32 p 10, hysteresis := field32 p 14 }
    if windowLegal w then some (some w) else none
  | _ => none

/-- The settings of an 18-byte CHANNEL_SET payload, or none when a field value is refused (R14, R194). -/
def decodeChannelSettings (p : List Byte) : Option ChannelSettings :=
  match MeasFunction.ofCode (field8 p 1) with
  | none => none
  | some f =>
    match decodeRange f (field8 p 2), Mode.ofCode (field8 p 3), decodeWindow p with
    | some r, some m, some w =>
      if field8 p 4 ≤ 250 then some { function := f, range := r, mode := m, settle := field8 p 4, window := w } else none
    | _, _, _ => none

/-- The CHANNEL_GET reply after its outcome byte (R20, R194): an absent window is sent as zeros. -/
def channelBytes (n : Fin 24) (c : Channel) : List Byte :=
  [byteOf n.val, boolByte c.enabled, byteOf c.function.code, byteOf c.range.code, byteOf c.mode.code, byteOf c.settle]
    ++ (match c.window with
        | none => byteOf 0 :: (signedBytes32 0 ++ signedBytes32 0 ++ bytes32 0)
        | some w => byteOf 1 :: (signedBytes32 w.low ++ signedBytes32 w.high ++ bytes32 w.hysteresis))
    ++ [byteOf c.remembered, byteOf c.trip.code]

/-- A channel number that names a channel (R1). -/
def channelOf (n : Nat) : Option (Fin 24) := if h : n < 24 then some ⟨n, h⟩ else none

/-! ## The step record (R196) -/

/-- The two-byte step records of a LIST_APPEND payload, in order (R196). -/
def stepRecords : List Byte → List (Nat × Nat)
  | a :: b :: rest => (a.toNat, b.toNat) :: stepRecords rest
  | _ => []

/-- The step of a two-byte record, or none when a field value is refused (R75, R196). -/
def decodeStep (r : Nat × Nat) : Option Step :=
  match channelOf r.1 with
  | none => none
  | some c =>
    if 1 ≤ r.2 % 32 ∧ r.2 % 32 ≤ 16 ∧ r.2 < 128 then
      some { channel := c, samples := r.2 % 32, mean := r.2 / 32 % 2 = 1, mark := r.2 / 64 % 2 = 1 }
    else none

/-- The steps of a LIST_APPEND, or none when any of them is refused (R75). -/
def decodeSteps : List (Nat × Nat) → Option (List Step)
  | [] => some []
  | r :: rest =>
    match decodeStep r, decodeSteps rest with
    | some st, some more => some (st :: more)
    | _, _ => none

/-- The two-byte record of a step (R196). -/
def stepBytes (st : Step) : List Byte :=
  [byteOf st.channel.val, byteOf (st.samples + (if st.mean then 32 else 0) + (if st.mark then 64 else 0))]

/-- The steps of a LIST_READ reply, each behind its index (R196). -/
def indexedStepBytes : Nat → List Step → List Byte
  | _, [] => []
  | i, st :: rest => byteOf i :: (stepBytes st ++ indexedStepBytes (i + 1) rest)

/-! ## Event sets (R192) -/

/-- A set that names only kinds 1 to 9: bit 0 and bits 10 to 15 are 0 (R192). -/
def eventSetLegal (m : Word16) : Bool := m &&& 0xFC01 == 0

/-- The event set at a payload offset (R192). -/
def eventSetField (p : List Byte) (off : Nat) : Word16 := BitVec.ofNat 16 (field16 p off)

/-- The payload is no clear set (EVENTS without one) or its two bytes (R164). -/
def clearSetOf (p : List Byte) : Word16 := if p.length = 2 then eventSetField p 0 else 0

/-! ## The frame and its CRC (R172, R173) -/

/-- One shift of the CRC register (R173). -/
def crcShift (r : Word16) : Word16 := if r.msb then (r <<< 1) ^^^ 0x1021 else r <<< 1

/-- One byte into the CRC register: exclusive-or into the high eight bits, then eight shifts (R173). -/
def crcByte (r : Word16) (b : Byte) : Word16 :=
  crcShift (crcShift (crcShift (crcShift (crcShift (crcShift (crcShift (crcShift
    (r ^^^ (b.setWidth 16 <<< 8)))))))))

/-- The CRC of the covered bytes, from FFFFh (R173). -/
def crc (bytes : List Byte) : Word16 := bytes.foldl crcByte 0xFFFF

/-- The bytes of KIND, TOKEN and payload. -/
def Frame.body (f : Frame) : List Byte := f.kind :: f.token :: f.payload

/-- The frame's bytes on the wire: lead byte, LEN, KIND, TOKEN, payload, CRC high byte first (R172). -/
def Frame.wire (f : Frame) : List Byte :=
  let covered := byteOf f.body.length :: f.body
  0xA5 :: (covered ++ bytes16 (crc covered).toNat)

/-- The frame whose KIND, TOKEN and payload are these bytes (R172). -/
def Frame.ofBody : List Byte → Frame
  | k :: t :: p => { kind := k, token := t, payload := p }
  | [k] => { kind := k, token := 0, payload := [] }
  | [] => { kind := 0, token := 0, payload := [] }

end Sys2Proof.Machine
end

