-- ==== Sys2Proof/Machine/Flags.lean ====
section
/-! DEFINITION. The flags of a record (R105), its bytes (R197), the class of a record against its window (R146), and
the event table's entries by kind (R158). -/

namespace Sys2Proof.Machine

/-! ## Record flags and bytes -/

/-- No flag. -/
def RecordFlags.none : RecordFlags :=
  { overrange := false, hunt := false, fast := false, mean := false, skipped := false, redone := false, trip := false }

/-- The flag byte of a record (R197). -/
def RecordFlags.byte (f : RecordFlags) : Byte :=
  byteOf ((if f.overrange then 1 else 0) + (if f.hunt then 2 else 0) + (if f.fast then 4 else 0)
    + (if f.mean then 8 else 0) + (if f.skipped then 16 else 0) + (if f.redone then 32 else 0)
    + (if f.trip then 64 else 0))

/-- The function-and-range byte of a record (R197); 00h for a skipped step. -/
def functionRangeByte (f : Option MeasFunction) (r : Nat) : Byte :=
  byteOf ((match f with | some g => g.code | none => 0) * 16 + r)

/-- The 19 bytes of a record (R197). -/
def recordBytes (r : Record) : List Byte :=
  bytes16 r.seq.toNat ++ bytes16 r.pass ++ [byteOf r.step, byteOf r.channel.val, byteOf r.sample]
    ++ [functionRangeByte r.function r.range, r.flags.byte]
    ++ signedBytes16 r.count ++ signedBytes32 r.value ++ bytes32 r.time.toNat

/-- Records behind their number, as FETCH and RESULT carry them (R198, R199). -/
def recordsBytes (rs : List Record) : List Byte := byteOf rs.length :: rs.flatMap recordBytes

/-! ## The class of a record against a window (R146) -/

/-- The three classes (R146). -/
inductive TripClass where
  | outside
  | between
  | clearingBand
  deriving DecidableEq, Repr

/-- The class of an evaluated record (R146): an OVER record is always outside. -/
def classify (w : Window) (r : Record) : TripClass :=
  if r.flags.overrange then .outside
  else if r.value < w.low ∨ w.high < r.value then .outside
  else if w.low + (w.hysteresis : Int) ≤ r.value ∧ r.value ≤ w.high - (w.hysteresis : Int) then .clearingBand
  else .between

/-! ## The event table -/

/-- The number of a kind, 1 to 9 (R159). -/
def EventKind.number : EventKind → Nat
  | .scanDone => 1
  | .passDone => 2
  | .trip => 3
  | .tripCleared => 4
  | .paceOverrun => 5
  | .railFault => 6
  | .streamStalled => 7
  | .queueLoss => 8
  | .mark => 9

/-- The nine kinds in kind order (R159). -/
def eventKinds : List EventKind :=
  [.scanDone, .passDone, .trip, .tripCleared, .paceOverrun, .railFault, .streamStalled, .queueLoss, .mark]

/-- Whether a set names a kind: bit n is kind n (R192). -/
def inEventSet (m : Word16) (k : EventKind) : Bool := m.getLsbD k.number

/-- The entry of a kind (R158). -/
def EventTable.get (t : EventTable) : EventKind → EventEntry
  | .scanDone => t.scanDone
  | .passDone => t.passDone
  | .trip => t.trip
  | .tripCleared => t.tripCleared
  | .paceOverrun => t.paceOverrun
  | .railFault => t.railFault
  | .streamStalled => t.streamStalled
  | .queueLoss => t.queueLoss
  | .mark => t.mark

/-- The table with the entry of a kind replaced (R158). -/
def EventTable.set (t : EventTable) (k : EventKind) (e : EventEntry) : EventTable :=
  match k with
  | .scanDone => { t with scanDone := e }
  | .passDone => { t with passDone := e }
  | .trip => { t with trip := e }
  | .tripCleared => { t with tripCleared := e }
  | .paceOverrun => { t with paceOverrun := e }
  | .railFault => { t with railFault := e }
  | .streamStalled => { t with streamStalled := e }
  | .queueLoss => { t with queueLoss := e }
  | .mark => { t with mark := e }

/-- The table with every entry replaced by a function of its kind and value. -/
def EventTable.mapEntries (t : EventTable) (f : EventKind → EventEntry → EventEntry) : EventTable :=
  { scanDone := f .scanDone t.scanDone, passDone := f .passDone t.passDone, trip := f .trip t.trip,
    tripCleared := f .tripCleared t.tripCleared, paceOverrun := f .paceOverrun t.paceOverrun,
    railFault := f .railFault t.railFault, streamStalled := f .streamStalled t.streamStalled,
    queueLoss := f .queueLoss t.queueLoss, mark := f .mark t.mark, subscription := t.subscription }

/-- Whether a kind is in the subscription set (R158). -/
def EventTable.subscribed (t : EventTable) (k : EventKind) : Bool := inEventSet t.subscription k

/-- The effect of a raise on the table (R160): start a pending period, count, or be absorbed at 255. -/
def EventTable.raise (t : EventTable) (k : EventKind) (detail : Word16) : EventTable :=
  let e := t.get k
  if e.pending then
    if e.count < 255 then t.set k { e with count := e.count + 1 } else t
  else t.set k { pending := true, count := 1, detail := detail, due := t.subscribed k }

/-- The set of the pending kinds, as the mask of R192 (R158). -/
def EventTable.pendingSet (t : EventTable) : Word16 :=
  BitVec.ofNat 16 ((eventKinds.map fun k => if (t.get k).pending then 2 ^ k.number else 0).sum)

/-- The lowest-numbered report-due kind (R185). -/
def EventTable.firstDue (t : EventTable) : Option EventKind := eventKinds.find? fun k => (t.get k).due

/-- The six bytes of an entry in an EVENTS reply (R198). -/
def entryBytes (k : EventKind) (e : EventEntry) : List Byte :=
  [byteOf k.number, boolByte e.pending, byteOf e.count] ++ bytes16 e.detail.toNat ++ [boolByte e.due]

/-- The nine entries in kind order and the subscription set (R198). -/
def EventTable.bytes (t : EventTable) : List Byte :=
  (eventKinds.flatMap fun k => entryBytes k (t.get k)) ++ bytes16 t.subscription.toNat

/-- EVENTS' clear (R165): each kind of the set becomes not pending; the subscription set stays. -/
def EventTable.clearSet (t : EventTable) (m : Word16) : EventTable :=
  t.mapEntries fun k e => if inEventSet m k then .empty else e

/-- SUBSCRIBE's effect (R161). -/
def EventTable.subscribe (t : EventTable) (m : Word16) : EventTable :=
  { t.mapEntries (fun k e =>
      { e with due :=
          if inEventSet m k then (if e.pending && !inEventSet t.subscription k then true else e.due) else false }) with
    subscription := m }

end Sys2Proof.Machine
end

