-- ==== Sys2Proof/Machine/Ops.lean ====
section
/-! DEFINITION. The operations the commands share: time, events, the converter's and the matrix's neighbours' requests,
the rail's requests, the production of a record with its evaluation and admission, and the processing of a request. -/

namespace Sys2Proof.Machine

/-! ## Time

DESIGN CHOICE (log entry 2): time is counted in converter ticks. A command that IS the expiry of a timer takes the time
that is left on that timer, during which every running timer and the scan clock run on; every other command takes no
time; an empty command queue lets one tick pass. A timer that reaches its limit stays there until its expiry is taken. -/

/-- A running timer after some ticks: it stops counting at its limit. -/
def tickTo (limit ticks t : Nat) : Nat := if limit ≤ t then t else min (t + ticks) limit

/-- The ZERO length of a mode (R23). -/
def zeroTicks : Mode → Nat
  | .normal => 2000
  | .fast => 400

/-- The INTEGRATE length of a mode (R23). -/
def integrateTicks : Mode → Nat
  | .normal => 4000
  | .fast => 400

/-- The de-integration limit of a mode (R23). -/
def deintegrateTicks : Mode → Nat
  | .normal => 4400
  | .fast => 440

/-- The mode of the conversion in progress; NORMAL stands in while none is held. -/
def Converter.modeOr (c : Converter) : Mode := c.mode.getD .normal

/-- The tick at which the current phase ends (R27, R28, R30). -/
def Converter.phaseLimit (c : Converter) : Nat :=
  match c.phase with
  | .idle => 0
  | .zero => zeroTicks c.modeOr
  | .integrate => integrateTicks c.modeOr
  | .deintegrate => c.crossing.getD (deintegrateTicks c.modeOr)

/-- The converter after some ticks (R23): the tick counter does not advance in IDLE. -/
def Converter.advance (ticks : Nat) (c : Converter) : Converter :=
  match c.phase with
  | .idle => c
  | .zero | .integrate | .deintegrate => { c with ticks := tickTo c.phaseLimit ticks c.ticks }

/-- The time the current BREAK or SETTLE takes, in ticks (R44). -/
def Matrix.phaseLimit (m : Matrix) : Nat :=
  match m.phase with
  | .breaking => Config.breakTicks
  | .settling => (match m.target with | some t => t.settle | none => 0) * Config.ticksPerMs
  | .opened | .connected => 0

/-- The matrix after some ticks: the phase timer measures BREAK and SETTLE (R40). -/
def Matrix.advance (ticks : Nat) (m : Matrix) : Matrix :=
  match m.phase with
  | .breaking | .settling => { m with timer := tickTo m.phaseLimit ticks m.timer }
  | .opened | .connected => m

/-- The rail's timers after some ticks (R50). -/
def Rail.advance (ticks : Nat) (r : Rail) : Rail :=
  { r with startTimer := r.startTimer.map (tickTo Config.startWindowTicks ticks)
           holdTimer := r.holdTimer.map (tickTo Config.holdTicks ticks) }

/-- The interval in ticks (R83). -/
def Settings.intervalTicks (c : Settings) : Nat := c.interval * Config.ticksPerMs

/-- The sequencer's clock and pace timer after some ticks: the scan clock runs in every state but IDLE (R80). -/
def Sequencer.advance (interval ticks : Nat) (q : Sequencer) : Sequencer :=
  let q := { q with paceTimer := q.paceTimer.map (tickTo interval ticks) }
  match q.scan with
  | .idle => q
  | .armed | .running | .pausing | .paused | .held | .faulted =>
    { q with clockMs := q.clockMs + BitVec.ofNat 32 ((q.clockTicks.val + ticks) / 40)
             clockTicks := ⟨(q.clockTicks.val + ticks) % 40, Nat.mod_lt _ (by decide)⟩ }

/-- The retransmit timer after some ticks (R133). -/
def Stream.advance (ticks : Nat) (t : Stream) : Stream :=
  { t with timer := t.timer.map (tickTo Config.retransmitTicks ticks) }

/-- The gap timer after some ticks (R177). -/
def Link.advance (ticks : Nat) (l : Link) : Link :=
  { l with gapTimer := l.gapTimer.map (tickTo Config.gapTicks ticks) }

/-- Some ticks pass for every block that keeps time. -/
def State.advance (ticks : Nat) (s : State) : State :=
  { s with conv := s.conv.advance ticks
           matrix := s.matrix.advance ticks
           rail := s.rail.advance ticks
           seq := s.seq.advance s.settings.intervalTicks ticks
           stream := s.stream.advance ticks
           link := s.link.advance ticks }

/-- With no command waiting the part goes on by itself for one tick of 25 µs (DESIGN CHOICE, log entry 2): its running
timers and its scan clock advance. While RESET_N is low nothing runs (R190). -/
def State.tick (s : State) : State := if s.pins.resetLow then s else s.advance 1

/-- The commands act only while the part is not held in reset (R190): while RESET_N is low nothing happens. -/
def whileLive (s : State) (f : State → State) : Host.Outcome State Fault Refusal :=
  .next (if s.pins.resetLow then s else f s)

/-! ## Events (R160) -/

/-- Raise a kind with a detail (R160). -/
def State.raise (k : EventKind) (detail : Word16) (s : State) : State := s.withEvents (s.events.raise k detail)

/-! ## The matrix, the converter and range control as their neighbours reach them -/

/-- An open request takes the matrix to OPEN at once, from any phase (R46). -/
def State.openMatrix (s : State) : State := s.withMatrix .opened

/-- An abort takes the converter to IDLE at once, with no outcome (R37). -/
def State.abortConversion (s : State) : State := s.withConv .idle

/-- Range control discards its sample range, change count and step lock (R71). -/
def State.dropSample (s : State) : State := s.withRanging .dropped

/-- The step the position stands at. -/
def State.currentStep (s : State) : Option Step := s.list[s.seq.step]?

/-- The matrix takes a target and enters BREAK: any channel is disconnected, the selection dropped and the excitation
switched off (R42, R43, R45). -/
def Matrix.breakTo (t : Target) : Matrix :=
  { phase := .breaking, channel := none, selection := none, excitation := false, target := some t, timer := 0 }

/-- BREAK has ended: the target's channel is connected and its function and range selected, with the excitation on
exactly for OHMS (R41, R44). -/
def Matrix.settleOn (t : Target) : Matrix :=
  { phase := .settling, channel := some t.channel, selection := some (t.function, t.range),
    excitation := t.function == .ohms, target := some t, timer := 0 }

/-- The sequencer's start request on the connected report: the converter takes the function and mode of the channel
being measured and enters ZERO, when it is IDLE, the matrix is CONNECTED and the scan is RUNNING or PAUSING; otherwise
the request is not acted on (R24, R25). -/
def State.startConversion (s : State) : State :=
  match s.currentStep with
  | none => s
  | some st =>
    if s.conv.phase = .idle ∧ s.matrix.phase = .connected ∧ (s.seq.scan = .running ∨ s.seq.scan = .pausing) then
      s.withConv { Converter.idle with phase := .zero, function := some s.table[st.channel].function,
                                       mode := some s.table[st.channel].mode }
    else s

/-- A connect request (R42, R43, R45): not acted on while the rail is not READY; already CONNECTED on the channel,
function and range, it completes at once with the connected report; the target of a BREAK or SETTLE in progress lets it
continue; any other target breaks. -/
def State.connect (t : Target) (s : State) : State :=
  if s.rail.state = .ready then
    match s.matrix.phase with
    | .opened => s.withMatrix (.breakTo t)
    | .connected =>
      if s.matrix.channel = some t.channel ∧ s.matrix.selection = some (t.function, t.range) then s.startConversion
      else s.withMatrix (.breakTo t)
    | .breaking | .settling => if s.matrix.target = some t then s else s.withMatrix (.breakTo t)
  else s

/-! ## The rail -/

/-- The sequencer's start request to the rail (R51). -/
def Rail.start (r : Rail) : Rail :=
  match r.state with
  | .off => { state := .starting, startTimer := some 0, holdTimer := none, cause := none }
  | .ready => { r with holdTimer := none }
  | .starting | .fault => r

/-- The sequencer's stop request to the rail (R54). -/
def Rail.release (r : Rail) : Rail :=
  match r.state with
  | .ready => { r with holdTimer := some 0 }
  | .starting | .fault => .off
  | .off => r

/-! ## The position and the scan's entries into its states -/

/-- The position as STATUS reports it (R79): step and sample.
DEDUCED (log entry 5): with the next step or the end of the pass as resume point, the step is the one the position
still stands at. DESIGN CHOICE (log entry 5): where that step was skipped, and so took no sample, the sample is 0, the
index of its SKIPPED record. -/
def State.position (s : State) : Nat × Nat :=
  match s.seq.scan with
  | .idle | .armed => (0, 0)
  | .running | .pausing | .faulted => (s.seq.step, s.seq.sample)
  | .held =>
    match s.queue.staged with
    | some r => (r.step, r.sample)
    | none => (s.seq.step, s.seq.sample)
  | .paused =>
    match s.seq.resume with
    | some (.within .measure) => (s.seq.step, s.seq.sample)
    | some (.within .nextSample) => (s.seq.step, s.seq.sample + 1)
    | some (.within .redoStep) => (s.seq.step, 1)
    | some (.within .nextStep) => (s.seq.step, s.seq.sample)
    | some (.within .endPass) => (s.seq.step, s.seq.sample)
    | some .toArmed | none => (0, 0)

/-- Entering IDLE: the clock and the pace timer stop, and the latch and the pace-due mark are cleared (R92, R99). DEDUCED
(log entry 6): the position's step and sample go to 0, as R79 reports them in IDLE. DEDUCED (log entry 19): the
continuation goes, also at the end of a scan's last pass. -/
def State.enterIdle (s : State) : State :=
  s.withSeq { s.seq with scan := .idle, step := 0, sample := 0, cont := none, resume := none, paceTimer := none,
                         paceDue := false, latch := false }

/-- Entering FAULTED (R100): the sample state, the accumulator and the redo mark go, and the position stays as it stood
at the fault. DEDUCED (log entry 6): that is the position STATUS would have reported. DESIGN CHOICE (log entry 19): the
continuation goes too, which R100 does not name; the resume point is held only while PAUSED (R78). -/
def State.enterFaulted (s : State) : State :=
  (s.withSeq { s.seq with scan := .faulted, step := s.position.1, sample := s.position.2, cont := none, resume := none,
                          acc := .empty, redo := false }).dropSample

/-- The rail enters FAULT (R55): one event for the rail, the matrix, the converter, the scan and the event table. A
fault found with the scan IDLE leaves the rail OFF. -/
def State.railFault (cause : RailCause) (s : State) : State :=
  let opened := s.openMatrix.abortConversion
  match s.seq.scan with
  | .idle => (opened.withRail .off).raise .railFault cause.detail
  | .armed | .running | .pausing | .paused | .held | .faulted =>
    ((opened.withRail { state := .fault, startTimer := none, holdTimer := none, cause := some cause }).enterFaulted).raise
      .railFault cause.detail

/-- The scan enters HELD with what comes after the staged record as its continuation (R93). -/
def State.enterHeld (c : Continuation) (s : State) : State := s.withSeq { s.seq with scan := .held, cont := some c }

/-- The scan enters PAUSED within the pass: the matrix opens and the continuation becomes the resume point (R95, R96).
DEDUCED (log entry 19): it is then held as the resume point alone. -/
def State.pauseWithin (c : Continuation) (s : State) : State :=
  s.openMatrix.withSeq { s.seq with scan := .paused, cont := none, resume := some (.within c) }

/-! ## The limit monitor -/

/-- Whether any channel is TRIPPED (R149). -/
def anyTripped (t : Vector Channel 24) : Bool := t.toList.any fun c => decide (c.trip = .tripped)

/-- The line level its mode gives it (R149). -/
def lineLevel (mode : LineMode) (latch : Bool) (t : Vector Channel 24) : Bool :=
  match mode with
  | .follow => anyTripped t
  | .latched => latch

/-- The line level is brought up to date (R149). -/
def State.updateLine (s : State) : State :=
  s.withLimit { s.limit with line := lineLevel s.limit.mode s.limit.latch s.table }

/-- The channel's record rewritten. -/
def State.setChannel (n : Fin 24) (c : Channel) (s : State) : State := s.withTable (s.table.set n.val c)

/-- The evaluation of a record at its production (R145, R147): the TRIP flag, the trip state, the events, the latch and
the line. A SKIPPED record and a channel with no window pass untouched. -/
def State.evaluate (r : Record) (s : State) : Record × State :=
  let c := s.table[r.channel]
  match r.flags.skipped, c.window with
  | false, some w =>
    match c.trip, classify w r with
    | .clear, .outside =>
      ({ r with flags := { r.flags with trip := true } },
       (((s.setChannel r.channel { c with trip := .tripped }).withLimit { s.limit with latch := true }).updateLine).raise
         .trip (BitVec.ofNat 16 r.channel.val))
    | .clear, .between => (r, s)
    | .clear, .clearingBand => (r, s)
    | .tripped, .outside => ({ r with flags := { r.flags with trip := true } }, s)
    | .tripped, .between => (r, s)
    | .tripped, .clearingBand =>
      (r, ((s.setChannel r.channel { c with trip := .clear }).updateLine).raise .tripCleared
            (BitVec.ofNat 16 r.channel.val))
  | false, none => (r, s)
  | true, _ => (r, s)

/-! ## The result queue -/

/-- What admission tells the sequencer (R90, R124). -/
inductive Admission where
  | goOn
  | hold
  deriving DecidableEq, Repr

/-- A record joins the newest end of the list as a fresh record (R112, R116). -/
def ResultQueue.append (q : ResultQueue) (r : Record) : ResultQueue :=
  { q with list := q.list ++ [{ record := r, sent := false }] }

/-- The oldest fresh record (R115). -/
def ResultQueue.oldestFresh (q : ResultQueue) : Option Record := (q.list.find? fun e => !e.sent).map (·.record)

/-- The list without its oldest fresh record (R115). -/
def ResultQueue.dropOldestFresh (q : ResultQueue) : ResultQueue :=
  { q with list := q.list.eraseP fun e => !e.sent }

/-- Admission of a record (R112 to R115).
DESIGN CHOICE (log entry 20): on a full list under DROP_OLDEST the order of an ACK and an admission matters, as R112,
R115 and the table of R118 have it: taken first, the ACK makes room and nothing is lost; taken first, the admission
loses the oldest fresh record. The last bullet of R140 says that both orders leave the same list.
DEDUCED (log entry 8): a full list with no fresh record cannot arise (R115), and if it stood, the new record would be
the one lost. -/
def State.admitRecord (r : Record) (s : State) : Admission × State :=
  if s.queue.list.length < Config.queueDepth then (.goOn, s.withQueue (s.queue.append r))
  else
    match s.settings.policy with
    | .stall => (.hold, s.withQueue { s.queue with staged := some r })
    | .dropNewest => (.goOn, s.raise .queueLoss r.seq)
    | .dropOldest =>
      match s.queue.oldestFresh with
      | some lost => (.goOn, (s.withQueue (s.queue.dropOldestFresh.append r)).raise .queueLoss lost.seq)
      | none => (.goOn, s.raise .queueLoss r.seq)

/-- A record takes the next sequence number, and the REDONE flag while the redo mark is set, which it clears (R89,
R108). -/
def State.assign (draft : Record) (s : State) : Record × State :=
  ({ draft with seq := s.queue.nextSeq, flags := { draft.flags with redone := s.seq.redo } },
   (s.withQueue { s.queue with nextSeq := s.queue.nextSeq + 1 }).withSeq { s.seq with redo := false })

/-- The production of a record, within one event (R109): number, evaluation, admission. -/
def State.produce (draft : Record) (s : State) : Admission × State :=
  let numbered := s.assign draft
  let judged := numbered.2.evaluate numbered.1
  judged.2.admitRecord judged.1

/-- The sequence number of the oldest record in the list, or the next-sequence counter when it is empty (R122, R137). -/
def ResultQueue.oldestSeq (q : ResultQueue) : Word16 :=
  match q.list with
  | [] => q.nextSeq
  | e :: _ => e.record.seq

/-- The forward distance between two sequence numbers, modulo 65536 (R137). -/
def seqDistance (a b : Word16) : Nat := (b - a).toNat

/-- Every record becomes fresh, k and the timeout count go to 0 and the timer stops (R128, R129). -/
def State.makeAllFresh (s : State) : State :=
  (s.withQueue { s.queue with list := s.queue.list.map fun e => { e with sent := false } }).withStream
    { s.stream with inFlight := 0, timer := none, timeouts := 0 }

/-! ## Request processing (R179 to R182) -/

/-- What the execution of a request gives: the reply's payload, and the state. -/
abbrev Execution := List Byte × State

/-- A refusal carries the outcome byte alone and changes nothing (R181, R191). -/
def refuse (o : ReplyOutcome) (s : State) : Execution := ([o.byte], s)

/-- A DONE reply with the fields the request returns (R181, R198). -/
def replyDone (fields : List Byte) (s : State) : Execution := (ReplyOutcome.done.byte :: fields, s)

/-- The frame matches the repeat cache: KIND, TOKEN and payload (R182). -/
def Link.cached (l : Link) (f : Frame) : Option Frame :=
  match l.cache with
  | some (g, r) => if g = f then some r else none
  | none => none

/-- The processor can take a frame: the inbound queue holds one and the reply queue has room (R179). -/
def Link.takes (l : Link) : Option (Frame × List Frame) :=
  match l.inbound with
  | f :: rest => if l.replies.length < Config.replyDepth then some (f, rest) else none
  | [] => none

/-- A reply joins the newest end of the reply queue (R179). -/
def State.addReply (r : Frame) (s : State) : State := s.withLink { s.link with replies := s.link.replies ++ [r] }

/-- The frame leaves the inbound queue (R179). -/
def State.leaveInbound (rest : List Frame) (s : State) : State := s.withLink { s.link with inbound := rest }

/-- The execution is over: its reply joins the reply queue, and the repeat cache holds the request and this reply
(R181, R182). -/
def State.finishRequest (f : Frame) (e : Execution) : State :=
  let reply : Frame := { kind := replyKind f.kind, token := f.token, payload := e.1 }
  (e.2.addReply reply).withLink { (e.2.addReply reply).link with cache := some (f, reply) }

/-- A request row: the processor takes the oldest inbound frame, finds it to be this row's request (its kind, with a
token, not a repeat, and `row` telling the rows of one kind apart by the payload), executes it and queues its reply, all
in one event (R179, R181). Where the oldest frame is not this row's, the processor does not do this row's work and
nothing happens (log entry 3). -/
def State.serve (kind : Byte) (row : List Byte → Bool) (run : List Byte → State → Execution) (s : State) : State :=
  match s.link.takes with
  | none => s
  | some (f, rest) =>
    if f.kind = kind ∧ f.token ≠ 0 ∧ s.link.cached f = none ∧ row f.payload = true then
      State.finishRequest f (run f.payload (s.leaveInbound rest))
    else s

/-- A row that is the only one of its kind. -/
def anyPayload (_p : List Byte) : Bool := true

end Sys2Proof.Machine
end

