-- ==== Sys2Proof/Machine/Sequencer.lean ====
section
/-! DEFINITION. The sample loop of the Scan Sequencer and range control (chapters 4 and 5): starting steps and samples,
forming records, completing steps, ending passes, and what the sequencer does with a conversion's outcome. -/

namespace Sys2Proof.Machine

/-! ## Records (R89) -/

/-- The record of a skipped step (R87, R89). -/
def State.skippedRecord (st : Step) (s : State) : Record :=
  { seq := 0, pass := s.seq.pass, step := s.seq.step, channel := st.channel, sample := 0, function := none, range := 0,
    flags := { RecordFlags.none with skipped := true }, count := 0, value := 0, time := s.seq.clockMs }

/-- An accepted sample (R66), with the function its conversion was started with. -/
structure Sample where
  count : Int
  range : Nat
  overrange : Bool
  hunt : Bool
  fast : Bool
  function : MeasFunction
  deriving DecidableEq, Repr

/-- The record of a sample of an EACH step (R89). -/
def State.eachRecord (st : Step) (a : Sample) (s : State) : Record :=
  { seq := 0, pass := s.seq.pass, step := s.seq.step, channel := st.channel, sample := s.seq.sample,
    function := some a.function, range := a.range,
    flags := { RecordFlags.none with overrange := a.overrange, hunt := a.hunt, fast := a.fast },
    count := a.count, value := normalized a.function a.range a.count, time := s.seq.clockMs }

/-- The record of a MEAN step from its accumulator, with its last sample for the range, function and mode (R68, R89):
the count is the sum divided by the samples, truncated toward zero. -/
def State.meanRecord (st : Step) (a : Sample) (s : State) : Record :=
  let range := s.ranging.lock.getD a.range
  let count := s.seq.acc.sum.tdiv (st.samples : Int)
  { seq := 0, pass := s.seq.pass, step := s.seq.step, channel := st.channel, sample := st.samples,
    function := some a.function, range := range,
    flags := { RecordFlags.none with overrange := s.seq.acc.overrange, hunt := s.seq.acc.hunt, fast := a.fast,
                                     mean := true },
    count := count, value := normalized a.function range count, time := s.seq.clockMs }

/-! ## Steps and passes -/

/-- A step completes (R91): MARK is raised where the step has it, and the step lock and the accumulator go. -/
def State.completeStep (st : Step) (s : State) : State :=
  let done := (s.withRanging { s.ranging with lock := none }).withSeq { s.seq with acc := .empty }
  if st.mark then done.raise .mark (BitVec.ofNat 16 s.seq.step) else done

/-- The passes completed saturate at 65535 (R92). -/
def nextPassesDone (n : Nat) : Nat := min (n + 1) 65535

/-- The end of a pass (R92), in RUNNING or PAUSING (R96): the matrix opens and PASS_DONE is raised; then either the scan
is done (IDLE, the rail's hold, SCAN_DONE), or it goes on to ARMED, or to PAUSED with "to ARMED" from PAUSING. DEDUCED (log
entry 19): no continuation is held in ARMED or in PAUSED. -/
def State.endPass (s : State) : State :=
  let n := nextPassesDone s.seq.passesDone
  let ended := (s.openMatrix.withSeq { s.seq with passesDone := n }).raise .passDone (BitVec.ofNat 16 s.seq.pass)
  if s.settings.passes ≠ 0 ∧ s.settings.passes ≤ n then
    (ended.enterIdle.withRail s.rail.release).raise .scanDone (BitVec.ofNat 16 n)
  else if s.seq.scan = .pausing then
    ended.withSeq { ended.seq with scan := .paused, step := 0, sample := 0, cont := none, resume := some .toArmed }
  else ended.withSeq { ended.seq with scan := .armed, step := 0, sample := 0, cont := none, resume := none }

/-- The range a sample's first conversion is made on (R60). -/
def State.firstRange (st : Step) (s : State) : Nat :=
  let c := s.table[st.channel]
  match c.range with
  | .fixed r => r
  | .auto => if st.mean then s.ranging.lock.getD c.remembered else c.remembered

/-- The connect request of the step's channel on a range (R60, R63). -/
def State.connectTarget (st : Step) (range : Nat) (s : State) : Target :=
  let c := s.table[st.channel]
  { channel := st.channel, function := c.function, range := range, settle := c.settle }

/-- A sample begins (R60, R88): the change count goes to 0, the sample range is chosen, and the matrix is asked to
connect. -/
def State.beginSample (st : Step) (s : State) : State :=
  let r := s.firstRange st
  let ready := (s.withRanging { sampleRange := some r, changes := 0, lock := s.ranging.lock }).withSeq
    { s.seq with cont := some .measure }
  ready.connect (ready.connectTarget st r)

/-- Start the first of the given steps, the position standing at it, in RUNNING (R87): an enabled channel begins its
first sample; a disabled one gives one SKIPPED record, and the scan goes on to the next step or holds. After the last
step the pass ends (R91, R92). -/
def startSteps : List Step → State → State
  | [], s => s.endPass
  | st :: rest, s =>
    if s.table[st.channel].enabled then (s.withSeq { s.seq with sample := 1 }).beginSample st
    else
      let at0 := s.withSeq { s.seq with sample := 0 }
      let made := at0.produce (at0.skippedRecord st)
      let done := made.2.completeStep st
      match made.1 with
      | .hold => done.enterHeld (if rest.isEmpty then .endPass else .nextStep)
      | .goOn => startSteps rest (done.withSeq { done.seq with step := done.seq.step + 1 })

/-- Start the step the position stands at. -/
def State.startStep (s : State) : State := startSteps (s.list.drop s.seq.step) s

/-- The sequencer takes its continuation in RUNNING (R78, R97). -/
def State.takeContinuation (c : Continuation) (s : State) : State :=
  match c with
  | .measure =>
    match s.currentStep with
    | none => s
    | some st =>
      (s.withSeq { s.seq with cont := some .measure }).connect
        (s.connectTarget st (s.ranging.sampleRange.getD (s.firstRange st)))
  | .nextSample =>
    match s.currentStep with
    | none => s
    | some st => (s.withSeq { s.seq with sample := s.seq.sample + 1 }).beginSample st
  | .redoStep => s.startStep
  | .nextStep => (s.withSeq { s.seq with step := s.seq.step + 1 }).startStep
  | .endPass => s.endPass

/-- The scan goes on after an admission that did not hold it: in RUNNING the continuation is taken; in PAUSING the pass
ends if it was the pass's last step, and otherwise the scan is PAUSED (R90, R96). -/
def State.goOnWith (c : Continuation) (s : State) : State :=
  if s.seq.scan = .pausing then
    match c with
    | .endPass => s.endPass
    | .measure | .nextSample | .redoStep | .nextStep => s.pauseWithin c
  else s.takeContinuation c

/-- The scan holds after a staged record: HELD from RUNNING, PAUSED from PAUSING (R90, R113). -/
def State.holdWith (c : Continuation) (s : State) : State :=
  if s.seq.scan = .pausing then s.pauseWithin c else s.enterHeld c

/-- What comes after the step the position stands at (R91). -/
def State.afterStep (s : State) : Continuation :=
  if s.seq.step + 1 < s.list.length then .nextStep else .endPass

/-- A record of the step goes through production, completes the step when it is its last, and the scan goes on or holds
(R90, R91). -/
def State.deliver (st : Step) (lastOfStep : Bool) (draft : Record) (s : State) : State :=
  let made := s.produce draft
  let done := if lastOfStep then made.2.completeStep st else made.2
  let c := if lastOfStep then s.afterStep else .nextSample
  match made.1 with
  | .goOn => done.goOnWith c
  | .hold => done.holdWith c

/-- The sample loop takes an accepted sample (R88): an EACH step's record at once; a MEAN step's sum, and its record
after the last sample. -/
def State.takeSample (st : Step) (a : Sample) (s : State) : State :=
  if st.mean then
    let summed := s.withSeq { s.seq with acc :=
      { sum := s.seq.acc.sum + a.count, overrange := s.seq.acc.overrange || a.overrange,
        hunt := s.seq.acc.hunt || a.hunt } }
    if s.seq.sample < st.samples then summed.goOnWith .nextSample
    else summed.deliver st true (summed.meanRecord st a)
  else s.deliver st (decide (st.samples ≤ s.seq.sample)) (s.eachRecord st a)

/-! ## Range control (chapter 4) -/

/-- A conversion's outcome (R35), with the function it was started with. -/
structure ConvOutcome where
  count : Int
  overrange : Bool
  mode : Mode
  function : MeasFunction
  deriving DecidableEq, Repr

/-- The range R62's table wants next, if it wants a change. -/
def wantedRange (o : ConvOutcome) (r : Nat) : Option Nat :=
  if o.overrange then (if r < highestRange o.function then some (r + 1) else none)
  else if o.count.natAbs < Config.downThreshold ∧ 0 < r then some (r - 1)
  else none

/-- Range control accepts the outcome (R66, R67, R68): the remembered range of an AUTO channel takes the sample range
unless OVER, the first sample of a MEAN step on AUTO sets the step lock, and the sample loop takes the sample. That the
sample range and the change count read none and 0 from here until the next sample begins, where the guide gives them no
meaning (R59, R66), is a DESIGN CHOICE (log entry 18). -/
def State.acceptOutcome (st : Step) (hunt : Bool) (o : ConvOutcome) (s : State) : State :=
  let r := s.ranging.sampleRange.getD 0
  let c := s.table[st.channel]
  let auto := decide (c.range = .auto)
  let remembered := if auto && !o.overrange then s.setChannel st.channel { c with remembered := r } else s
  let lock := if auto && st.mean then some (s.ranging.lock.getD r) else s.ranging.lock
  (remembered.withRanging { sampleRange := none, changes := 0, lock := lock }).takeSample st
    { count := o.count, range := r, overrange := o.overrange, hunt := hunt, fast := decide (o.mode = .fast),
      function := o.function }

/-- Range control makes a change (R63): one range up or down, and a new connect request for the same channel. -/
def State.changeRange (st : Step) (range : Nat) (s : State) : State :=
  (s.withRanging { sampleRange := some range, changes := s.ranging.changes + 1, lock := s.ranging.lock }).connect
    (s.connectTarget st range)

/-- Whether range control may look for another range: AUTO, and not a later sample of a MEAN step (R61, R68). -/
def State.mayRange (st : Step) (s : State) : Bool :=
  decide (s.table[st.channel].range = .auto) && !(st.mean && s.ranging.lock.isSome)

/-- Range control judges an outcome of the step (R61, R62, R64, R65, R68, R69). -/
def State.judge (st : Step) (o : ConvOutcome) (s : State) : State :=
  if s.mayRange st then
    match wantedRange o (s.ranging.sampleRange.getD 0) with
    | none => s.acceptOutcome st false o
    | some r =>
      if s.seq.scan = .pausing ∨ Config.maxChanges ≤ s.ranging.changes then s.acceptOutcome st true o
      else s.changeRange st r
  else s.acceptOutcome st false o

/-- The sequencer takes an outcome in RUNNING or PAUSING (R88, R96); in any other state no conversion runs. -/
def State.takeOutcome (o : ConvOutcome) (s : State) : State :=
  match s.seq.scan with
  | .running | .pausing =>
    match s.currentStep with
    | some st => s.judge st o
    | none => s
  | .idle | .armed | .paused | .held | .faulted => s

/-! ## The end of a hold, changes in flight, and STOP -/

/-- The sequencer is told that the hold is over (R94): a HELD scan enters RUNNING and takes its continuation; in any
other state the scan stays. -/
def State.holdOver (s : State) : State :=
  match s.seq.scan, s.seq.cont with
  | .held, some c => (s.withSeq { s.seq with scan := .running }).takeContinuation c
  | .held, none => s.withSeq { s.seq with scan := .running }
  | .idle, _ | .armed, _ | .running, _ | .pausing, _ | .paused, _ | .faulted, _ => s

/-- A removal has made room: an occupied staging slot drains (R116). -/
def State.drain (removed : Nat) (s : State) : State :=
  match s.queue.staged with
  | some r => if 0 < removed then (s.withQueue { s.queue.append r with staged := none }).holdOver else s
  | none => s

/-- A continuation that leaves the step records still to produce (R102). -/
def Continuation.stepUnfinished : Continuation → Bool
  | .measure | .nextSample | .redoStep => true
  | .nextStep | .endPass => false

/-- The sample state goes, the accumulator is emptied and the redo mark is set (R101, R102). -/
def State.markRedo (s : State) : State := s.dropSample.withSeq { s.seq with acc := .empty, redo := true }

/-- A CHANNEL_SET or CHANNEL_OFF has rewritten a channel: what that does to the current step (R101, R102). -/
def State.channelChanged (n : Fin 24) (s : State) : State :=
  match s.currentStep with
  | none => s
  | some st =>
    if st.channel = n then
      match s.seq.scan with
      | .running =>
        let redone := s.abortConversion.openMatrix.markRedo
        (redone.withSeq { redone.seq with sample := 1, cont := some .redoStep }).takeContinuation .redoStep
      | .pausing =>
        let redone := s.abortConversion.openMatrix.markRedo
        (redone.withSeq { redone.seq with sample := 1 }).pauseWithin .redoStep
      | .held =>
        match s.seq.cont with
        | some c =>
          if c.stepUnfinished then s.markRedo.withSeq { s.markRedo.seq with cont := some .redoStep } else s
        | none => s
      | .paused =>
        match s.seq.resume with
        | some (.within c) =>
          if c.stepUnfinished then s.markRedo.withSeq { s.markRedo.seq with resume := some (.within .redoStep) } else s
        | some .toArmed => s
        | none => s
      | .idle | .armed | .faulted => s
    else s

/-- The staged record is discarded and QUEUE_LOSS raised with its number (R99, R117). -/
def State.discardStaged (s : State) : State :=
  match s.queue.staged with
  | some r => (s.withQueue { s.queue with staged := none }).raise .queueLoss r.seq
  | none => s

/-- STOP semantics (R99): in IDLE nothing; otherwise abort, open, discard, drop, enter IDLE, release the rail. -/
def State.stopScan (s : State) : State :=
  match s.seq.scan with
  | .idle => s
  | .armed | .running | .pausing | .paused | .held | .faulted =>
    let cut := s.abortConversion.openMatrix.discardStaged.dropSample
    (cut.withSeq { cut.seq with acc := .empty, redo := false }).enterIdle.withRail s.rail.release

/-- One pending start of a pass reaches the trigger latch (R85). -/
def State.triggerLatch (s : State) : State :=
  match s.seq.scan with
  | .idle => s
  | .armed | .running | .pausing | .paused | .held | .faulted =>
    if s.seq.latch then s.raise .paceOverrun (BitVec.ofNat 16 s.seq.pass)
    else s.withSeq { s.seq with latch := true }

/-- The pace condition of an ARMED scan (R82). -/
def State.paceHolds (s : State) : Bool :=
  match s.settings.pace with
  | .free => decide (s.seq.pass = 0) || decide (1 ≤ (s.seq.clockMs - s.seq.passStart).toNat)
  | .timed => decide (s.seq.pass = 0) || s.seq.paceDue
  | .triggered => s.seq.latch

/-- Whether the pass in progress is the last of a limited scan (R84). -/
def State.lastPass (s : State) : Bool :=
  decide (s.settings.passes ≠ 0) && decide (s.seq.passesDone + 1 = s.settings.passes)

end Sys2Proof.Machine
end

