-- ==== Sys2Proof/Machine/ChannelRequests.lean ====
section
/-! DEFINITION. CHANNEL_SET, CHANNEL_GET and CHANNEL_OFF (R14 to R21). -/

namespace Sys2Proof.Machine

/-- The record an accepted CHANNEL_SET leaves (R15, R16). -/
def ChannelSettings.record (c : ChannelSettings) : Channel :=
  { enabled := true, function := c.function, range := c.range, mode := c.mode, settle := c.settle, window := c.window,
    remembered := highestRange c.function, trip := .clear }

/-- CHANNEL_SET: length, channel, field values (R14); then the record is written, the TRIP line follows, and the current
step starts again where it measures this channel (R15, R16, R101, R102). -/
def runChannelSet (p : List Byte) (s : State) : Execution :=
  if p.length ≠ 18 then refuse .badLength s
  else
    match channelOf (field8 p 0) with
    | none => refuse .noChannel s
    | some n =>
      match decodeChannelSettings p with
      | none => refuse .badValue s
      | some c => replyDone [] (((s.setChannel n c.record).updateLine).channelChanged n)

/-- CHANNEL_GET (R20, R194). -/
def runChannelGet (p : List Byte) (s : State) : Execution :=
  if p.length ≠ 1 then refuse .badLength s
  else
    match channelOf (field8 p 0) with
    | none => refuse .noChannel s
    | some n => replyDone (channelBytes n s.table[n]) s

/-- CHANNEL_OFF (R18): the enabled field goes to no, and the current step starts again, as a skipped one, where it
measures this channel (R101, R102). -/
def runChannelOff (p : List Byte) (s : State) : Execution :=
  if p.length ≠ 1 then refuse .badLength s
  else
    match channelOf (field8 p 0) with
    | none => refuse .noChannel s
    | some n => replyDone [] ((s.setChannel n { s.table[n] with enabled := false }).channelChanged n)

/-- CHANNEL_SET (R15). -/
def execChannelSet (s : State) : Host.Outcome State Fault Refusal :=
  whileLive s (State.serve 0x10 anyPayload runChannelSet)

/-- CHANNEL_GET (R20). -/
def execChannelGet (s : State) : Host.Outcome State Fault Refusal :=
  whileLive s (State.serve 0x11 anyPayload runChannelGet)

/-- CHANNEL_OFF (R18). -/
def execChannelOff (s : State) : Host.Outcome State Fault Refusal :=
  whileLive s (State.serve 0x12 anyPayload runChannelOff)

end Sys2Proof.Machine
end

