-- ==== Sys2Proof/Machine/ConverterEvents.lean ====
section
/-! DEFINITION. The converter's phases and its ideal counts (R27 to R35). -/

namespace Sys2Proof.Machine

/-- The raw full scale of a mode (R23). -/
def rawFullScale : Mode → Nat
  | .normal => 4000
  | .fast => 400

/-- The ideal magnitude of a raw count (R31, R32): the raw full scale times the magnitude of the quantity over the full
scale, truncated. -/
def idealMagnitude (m : Mode) (f : MeasFunction) (range : Nat) (q : Rat) : Nat :=
  rawFullScale m * q.num.natAbs / (q.den * fullScale f range)

/-- A crossing at a magnitude below the de-integration limit, and none at or above it (R31). -/
def crossingAt (m : Mode) (magnitude : Nat) : Option Nat :=
  if magnitude < deintegrateTicks m then some magnitude else none

/-- The polarity of a mean input (R29): negative only for a VOLT or CURR input below zero. -/
def judgePolarity (f : MeasFunction) (input : MeanInput) : Polarity :=
  match f with
  | .volt | .curr => if input.microvolts.num < 0 then .negative else .positive
  | .ohms => .positive

/-- The tick of DEINTEGRATE at which the comparator crosses for a mean input, or none when it does not cross before the
limit (R31, R32). -/
def idealCrossing (m : Mode) (f : MeasFunction) (range : Nat) (input : MeanInput) : Option Nat :=
  match f with
  | .volt | .curr => crossingAt m (idealMagnitude m f range input.microvolts)
  | .ohms =>
    match input.ohms with
    | .resistance r => if r.num < 0 then none else crossingAt m (idealMagnitude m f range r)
    | .openPoint => none
    | .drivenAgainst => none

/-- The reported count of a raw count (R34). -/
def reportedCount : Mode → Int → Int
  | .normal, raw => raw
  | .fast, raw => raw * 10

/-- The count of an OVERRANGE conversion (R33). -/
def overrangeCount : Polarity → Int
  | .positive => 4400
  | .negative => -4400

/-- The sign a polarity gives a magnitude (R29, R31). -/
def signedMagnitude : Polarity → Nat → Int
  | .positive, m => (m : Int)
  | .negative, m => -(m : Int)

/-- The range the matrix has selected, on whose full scale the conversion runs (R24). -/
def State.selectedRange (s : State) : Nat :=
  match s.matrix.selection with
  | some (_, r) => r
  | none => 0

/-- The function of the conversion in progress; VOLT stands in while none is held. -/
def Converter.functionOr (c : Converter) : MeasFunction := c.function.getD .volt

/-- The tick counter reaches the ZERO length (R27): the offset is stored and INTEGRATE begins. -/
def State.endZero (s : State) : State :=
  if s.conv.phase = .zero then
    let later := s.advance (s.conv.phaseLimit - s.conv.ticks)
    later.withConv { later.conv with phase := .integrate, ticks := 0, offsetStored := true }
  else s

/-- The tick counter reaches the INTEGRATE length (R28): the polarity is judged and DEINTEGRATE begins, with the charge
the mean input has left on the integrator. -/
def State.endIntegrate (input : MeanInput) (s : State) : State :=
  if s.conv.phase = .integrate then
    let later := s.advance (s.conv.phaseLimit - s.conv.ticks)
    later.withConv { later.conv with
      phase := .deintegrate, ticks := 0, polarity := judgePolarity s.conv.functionOr input,
      crossing := idealCrossing s.conv.modeOr s.conv.functionOr s.selectedRange input }
  else s

/-- A conversion completes (R35): the converter returns to IDLE and hands its outcome to the sequencer. -/
def State.completeConversion (o : ConvOutcome) (s : State) : State := s.abortConversion.takeOutcome o

/-- The comparator crosses below the limit (R30): the raw count is latched and the conversion completes. -/
def State.crossThreshold (s : State) : State :=
  match s.conv.phase, s.conv.crossing with
  | .deintegrate, some m =>
    (s.advance (m - s.conv.ticks)).completeConversion
      { count := reportedCount s.conv.modeOr (signedMagnitude s.conv.polarity m), overrange := false,
        mode := s.conv.modeOr, function := s.conv.functionOr }
  | .deintegrate, none => s
  | .idle, _ | .zero, _ | .integrate, _ => s

/-- The tick counter reaches the de-integration limit without a crossing (R33): the conversion completes as OVERRANGE. -/
def State.reachLimit (s : State) : State :=
  match s.conv.phase, s.conv.crossing with
  | .deintegrate, none =>
    (s.advance (deintegrateTicks s.conv.modeOr - s.conv.ticks)).completeConversion
      { count := overrangeCount s.conv.polarity, overrange := true, mode := s.conv.modeOr,
        function := s.conv.functionOr }
  | .deintegrate, some _ => s
  | .idle, _ | .zero, _ | .integrate, _ => s

/-- ZERO_END (R27). -/
def execZeroEnd (s : State) : Host.Outcome State Fault Refusal := whileLive s State.endZero

/-- INTEGRATE_END (R28). -/
def execIntegrateEnd (input : MeanInput) (s : State) : Host.Outcome State Fault Refusal :=
  whileLive s (State.endIntegrate input)

/-- DEINTEGRATE_CROSSING (R30). -/
def execDeintegrateCrossing (s : State) : Host.Outcome State Fault Refusal := whileLive s State.crossThreshold

/-- DEINTEGRATE_LIMIT (R33). -/
def execDeintegrateLimit (s : State) : Host.Outcome State Fault Refusal := whileLive s State.reachLimit

end Sys2Proof.Machine
end

