-- ==== Sys2Proof/Machine/EventRequests.lean ====
section
/-! DEFINITION. EVENTS and SUBSCRIBE (R161, R164, R165). -/

namespace Sys2Proof.Machine

/-- EVENTS (R164, R165): the reply shows the entries before the clearing. -/
def runEvents (p : List Byte) (s : State) : Execution :=
  if p.length ≠ 0 ∧ p.length ≠ 2 then refuse .badLength s
  else if eventSetLegal (clearSetOf p) = false then refuse .badValue s
  else replyDone s.events.bytes (s.withEvents (s.events.clearSet (clearSetOf p)))

/-- SUBSCRIBE (R161). -/
def runSubscribe (p : List Byte) (s : State) : Execution :=
  if p.length ≠ 2 then refuse .badLength s
  else if eventSetLegal (eventSetField p 0) = false then refuse .badValue s
  else replyDone (bytes16 (eventSetField p 0).toNat) (s.withEvents (s.events.subscribe (eventSetField p 0)))

/-- EVENTS (R164). -/
def execEvents (s : State) : Host.Outcome State Fault Refusal :=
  whileLive s (State.serve 0x30 anyPayload runEvents)

/-- SUBSCRIBE (R161). -/
def execSubscribe (s : State) : Host.Outcome State Fault Refusal :=
  whileLive s (State.serve 0x31 anyPayload runSubscribe)

end Sys2Proof.Machine
end

