-- ==== Sys2Proof/Machine/LinkEvents.lean ====
section
/-! DEFINITION. The frames answered without being executed (R180, R182), the receiver (R175 to R177) and the transmitter
(R131, R162, R184, R185). -/

namespace Sys2Proof.Machine

/-! ## Frames answered without being executed -/

/-- A taken frame answered without execution: its reply joins the reply queue and the frame leaves (R179). -/
def State.answer (rest : List Frame) (reply : Frame) (s : State) : State := (s.leaveInbound rest).addReply reply

/-- The refusal of an unknown kind (R180). -/
def unknownKindReply (f : Frame) : Frame :=
  { kind := 0xFE, token := f.token, payload := [ReplyOutcome.unknownKind.byte, f.kind] }

/-- The BAD_TOKEN refusal (R180). -/
def badTokenReply (f : Frame) : Frame :=
  { kind := replyKind f.kind, token := 0, payload := [ReplyOutcome.badToken.byte] }

/-- A taken frame whose KIND is no request kind (R180). -/
def State.answerUnknownKind (s : State) : State :=
  match s.link.takes with
  | some (f, rest) => if isRequestKind f.kind then s else s.answer rest (unknownKindReply f)
  | none => s

/-- A taken frame of a request kind with token 0 (R180). -/
def State.answerBadToken (s : State) : State :=
  match s.link.takes with
  | some (f, rest) => if isRequestKind f.kind ∧ f.token = 0 then s.answer rest (badTokenReply f) else s
  | none => s

/-- A taken frame that matches the repeat cache (R182): a copy of the cached reply. -/
def State.answerRepeat (s : State) : State :=
  match s.link.takes with
  | some (f, rest) =>
    match s.link.cached f with
    | some reply => if isRequestKind f.kind ∧ f.token ≠ 0 then s.answer rest reply else s
    | none => s
  | none => s

/-- UNKNOWN_KIND (R180). -/
def execUnknownKind (s : State) : Host.Outcome State Fault Refusal := whileLive s State.answerUnknownKind

/-- BAD_TOKEN (R180). -/
def execBadToken (s : State) : Host.Outcome State Fault Refusal := whileLive s State.answerBadToken

/-- REPEAT_CACHE_MATCH (R182). -/
def execRepeatCacheMatch (s : State) : Host.Outcome State Fault Refusal := whileLive s State.answerRepeat

/-! ## The receiver -/

/-- A link counter goes up by one and stays at 65535 (R174). -/
def bump (n : Nat) : Nat := min (n + 1) 65535

/-- A framing failure (R175 to R177): the frame is discarded, the framing count goes up, and the receiver hunts. -/
def Link.framingFailure (l : Link) : Link :=
  { l with receiver := .hunt, gapTimer := none, framingCount := bump l.framingCount }

/-- A frame with both CRC bytes is checked (R175): a CRC that does not agree counts a check failure; a good frame joins
the inbound queue, or counts an overflow when it holds 4. -/
def Link.checkFrame (len : Nat) (got crcBytes : List Byte) (l : Link) : Link :=
  let hunting := { l with receiver := .hunt, gapTimer := none }
  if crcBytes ≠ bytes16 (crc (byteOf len :: got)).toNat then { hunting with checkCount := bump l.checkCount }
  else if l.inbound.length < Config.inboundDepth then { hunting with inbound := l.inbound ++ [Frame.ofBody got] }
  else { hunting with overflowCount := bump l.overflowCount }

/-- A good character (R175). -/
def Link.character (b : Byte) (l : Link) : Link :=
  match l.receiver with
  | .hunt => if b = 0xA5 then { l with receiver := .length, gapTimer := some 0 } else l
  | .length =>
    if 2 ≤ b.toNat ∧ b.toNat ≤ 62 then { l with receiver := .body b.toNat [], gapTimer := some 0 }
    else l.framingFailure
  | .body len got =>
    if got.length + 1 < len then { l with receiver := .body len (got ++ [b]), gapTimer := some 0 }
    else { l with receiver := .check len (got ++ [b]) [], gapTimer := some 0 }
  | .check len got [] => { l with receiver := .check len got [b], gapTimer := some 0 }
  | .check len got (c :: cs) => l.checkFrame len got ((c :: cs) ++ [b])

/-- A damaged character (R176). -/
def Link.damaged (l : Link) : Link :=
  match l.receiver with
  | .hunt => l
  | .length | .body _ _ | .check _ _ _ => l.framingFailure

/-- The gap timer passes 10 ms (R177): the time left on it passes, then the frame is a framing failure. -/
def State.gapExpiry (s : State) : State :=
  match s.link.gapTimer with
  | some t => let later := s.advance (Config.gapTicks - t); later.withLink later.link.framingFailure
  | none => s

/-- GOOD_CHARACTER (R175). -/
def execGoodCharacter (b : Byte) (s : State) : Host.Outcome State Fault Refusal :=
  whileLive s fun t => t.withLink (t.link.character b)

/-- DAMAGED_CHARACTER (R176). -/
def execDamagedCharacter (s : State) : Host.Outcome State Fault Refusal :=
  whileLive s fun t => t.withLink t.link.damaged

/-- GAP_TIMER_EXPIRY (R177). -/
def execGapTimerExpiry (s : State) : Host.Outcome State Fault Refusal := whileLive s State.gapExpiry

/-! ## The transmitter -/

/-- The transmitter begins a frame (R184): its bytes are taken at that moment. -/
def State.transmit (f : Frame) (s : State) : State := s.withLink { s.link with sending := some f.wire }

/-- The arbiter's first choice (R185): the oldest reply. -/
def State.sendOldestReply (s : State) : State :=
  match s.link.sending, s.link.replies with
  | none, r :: rest => (s.withLink { s.link with replies := rest }).transmit r
  | none, [] => s
  | some _, _ => s

/-- The EVENT report of a kind (R162, R199). -/
def eventReportFrame (k : EventKind) (e : EventEntry) : Frame :=
  { kind := 0x41, token := 0, payload := [byteOf k.number, byteOf e.count] ++ bytes16 e.detail.toNat }

/-- The arbiter's second choice (R162, R185): with no reply waiting, the lowest-numbered report-due kind. -/
def State.sendEventReport (s : State) : State :=
  match s.link.sending, s.link.replies, s.events.firstDue with
  | none, [], some k =>
    (s.withEvents (s.events.set k { s.events.get k with due := false })).transmit (eventReportFrame k (s.events.get k))
  | none, [], none => s
  | none, _ :: _, _ => s
  | some _, _, _ => s

/-- The number of records a RESULT report takes (R131): the smallest of 3, W − k and the unsent records. -/
def State.reportSize (s : State) : Nat :=
  min Config.recordsPerFrame (min (s.stream.window - s.stream.inFlight) (s.queue.list.length - s.stream.inFlight))

/-- The records a RESULT report takes: the oldest unsent ones (R131). -/
def State.reported (s : State) : List Record :=
  ((s.queue.list.drop s.stream.inFlight).take s.reportSize).map (·.record)

/-- The RESULT report of some records (R132, R199). -/
def resultReportFrame (rs : List Record) : Frame := { kind := 0x40, token := 0, payload := recordsBytes rs }

/-- The composition of a RESULT report (R131): the records taken get the sent mark and join the in-flight region, and
the retransmit timer starts if nothing was in flight. -/
def State.composeResults (s : State) : State :=
  let k := s.stream.inFlight
  let n := s.reportSize
  let marked := s.queue.list.take k ++ ((s.queue.list.drop k).take n).map (fun e => { e with sent := true })
    ++ s.queue.list.drop (k + n)
  ((s.withQueue { s.queue with list := marked }).withStream
    { s.stream with inFlight := k + n, timer := if k = 0 then some 0 else s.stream.timer }).transmit
      (resultReportFrame s.reported)

/-- The arbiter's third choice (R131, R185): no reply waits, no kind is report-due, the stream is ON, k is below W and
the list holds an unsent record. -/
def State.sendResultReport (s : State) : State :=
  match s.link.sending, s.link.replies, s.events.firstDue with
  | none, [], none =>
    if s.stream.state = .on ∧ s.stream.inFlight < s.stream.window ∧ s.stream.inFlight < s.queue.list.length then
      s.composeResults
    else s
  | none, [], some _ => s
  | none, _ :: _, _ => s
  | some _, _, _ => s

/-- SEND_REPLY (R185). -/
def execSendReply (s : State) : Host.Outcome State Fault Refusal := whileLive s State.sendOldestReply

/-- EVENT_REPORT (R162). -/
def execEventReport (s : State) : Host.Outcome State Fault Refusal := whileLive s State.sendEventReport

/-- RESULT_REPORT (R131). -/
def execResultReport (s : State) : Host.Outcome State Fault Refusal := whileLive s State.sendResultReport

/-- FRAME_SENT (R184): the last CRC byte is sent and the transmitter is idle. -/
def execFrameSent (s : State) : Host.Outcome State Fault Refusal :=
  whileLive s fun t => t.withLink { t.link with sending := none }

end Sys2Proof.Machine
end

