-- ==== Sys2Proof/Machine/LinkRequests.lean ====
section
/-! DEFINITION. IDENTIFY, STATUS and RESTART (R186 to R188). -/

namespace Sys2Proof.Machine

/-- The fixed values of IDENTIFY (R186, R198). -/
def identityBytes : List Byte :=
  bytes16 Config.vendorCode ++ bytes16 Config.partCode ++ [byteOf Config.revision, byteOf 24, byteOf Config.listDepth,
    byteOf Config.queueDepth, byteOf Config.maxWindow, byteOf 9]

/-- IDENTIFY (R186). -/
def runIdentify (p : List Byte) (s : State) : Execution :=
  if p.length ≠ 0 then refuse .badLength s else replyDone identityBytes s

/-- The fields of the STATUS reply after its outcome byte (R187, R200). -/
def State.statusBytes (s : State) : List Byte :=
  [byteOf s.seq.scan.code] ++ bytes16 s.seq.pass ++ [byteOf s.position.1, byteOf s.position.2, byteOf s.rail.state.code,
    byteOf s.queue.list.length, byteOf s.stream.inFlight, boolByte s.queue.staged.isSome, byteOf s.stream.state.code,
    byteOf s.stream.window]
    ++ bytes16 s.queue.oldestSeq.toNat ++ bytes16 s.queue.nextSeq.toNat ++ bytes16 s.events.pendingSet.toNat
    ++ bytes16 s.events.subscription.toNat ++ [boolByte s.limit.line, boolByte s.limit.latch]
    ++ bytes16 s.link.framingCount ++ bytes16 s.link.checkCount ++ bytes16 s.link.overflowCount

/-- STATUS (R187). -/
def runStatus (p : List Byte) (s : State) : Execution :=
  if p.length ≠ 0 then refuse .badLength s else replyDone s.statusBytes s

/-- The working fields of a channel as RESTART leaves them (R13). -/
def Channel.restarted (c : Channel) : Channel := { c with remembered := highestRange c.function, trip := .clear }

/-- Every record of the table rewritten by a function. -/
def mapTable (f : Channel → Channel) (t : Vector Channel 24) : Vector Channel 24 :=
  ⟨(t.toList.map f).toArray, by simp⟩

/-- RESTART's steps 2 to 8, after its STOP semantics (R188). -/
def State.clearWork (s : State) : State :=
  { s with
    seq := { s.seq with pass := 0, step := 0, sample := 0, passesDone := 0, passStart := 0, clockMs := 0, clockTicks := 0 }
    table := mapTable Channel.restarted s.table
    limit := { s.limit with latch := false, line := false }
    queue := .reset
    stream := { s.stream with state := .off, inFlight := 0, timer := none, timeouts := 0 }
    link := { s.link with framingCount := 0, checkCount := 0, overflowCount := 0 }
    events := .cleared s.events.subscription }

/-- RESTART (R188). -/
def runRestart (p : List Byte) (s : State) : Execution :=
  if p.length ≠ 0 then refuse .badLength s else replyDone [] s.stopScan.clearWork

/-- IDENTIFY (R186). -/
def execIdentify (s : State) : Host.Outcome State Fault Refusal :=
  whileLive s (State.serve 0x01 anyPayload runIdentify)

/-- STATUS (R187). -/
def execStatus (s : State) : Host.Outcome State Fault Refusal :=
  whileLive s (State.serve 0x02 anyPayload runStatus)

/-- RESTART (R188). -/
def execRestart (s : State) : Host.Outcome State Fault Refusal :=
  whileLive s (State.serve 0x03 anyPayload runRestart)

end Sys2Proof.Machine
end

