-- ==== Sys2Proof/Machine/ListRequests.lean ====
section
/-! DEFINITION. LIST_CLEAR, LIST_APPEND and LIST_READ (R74 to R76). -/

namespace Sys2Proof.Machine

/-- LIST_CLEAR (R74). -/
def runListClear (p : List Byte) (s : State) : Execution :=
  if p.length ≠ 0 then refuse .badLength s
  else if s.seq.scan ≠ .idle then refuse .busy s
  else replyDone [] (s.withList [])

/-- A LIST_APPEND payload's length: a whole number of two-byte steps, 1 to 16 (R75). -/
def appendLength (n : Nat) : Bool := decide (n % 2 = 0) && decide (2 ≤ n) && decide (n ≤ 32)

/-- LIST_APPEND (R75): taken whole or refused whole. -/
def runListAppend (p : List Byte) (s : State) : Execution :=
  if appendLength p.length = false then refuse .badLength s
  else if (stepRecords p).any (fun r => decide (24 ≤ r.1)) then refuse .noChannel s
  else
    match decodeSteps (stepRecords p) with
    | none => refuse .badValue s
    | some steps =>
      if s.seq.scan ≠ .idle then refuse .busy s
      else if Config.listDepth < s.list.length + steps.length then refuse .listFull s
      else replyDone [] (s.withList (s.list ++ steps))

/-- LIST_READ (R76): a start index and a count from 1 to 16. -/
def runListRead (p : List Byte) (s : State) : Execution :=
  if p.length ≠ 2 then refuse .badLength s
  else if field8 p 1 = 0 ∨ 16 < field8 p 1 ∨ s.list.length ≤ field8 p 0 then refuse .badValue s
  else
    replyDone (byteOf s.list.length :: indexedStepBytes (field8 p 0) ((s.list.drop (field8 p 0)).take (field8 p 1))) s

/-- LIST_CLEAR (R74). -/
def execListClear (s : State) : Host.Outcome State Fault Refusal :=
  whileLive s (State.serve 0x18 anyPayload runListClear)

/-- LIST_APPEND (R75). -/
def execListAppend (s : State) : Host.Outcome State Fault Refusal :=
  whileLive s (State.serve 0x19 anyPayload runListAppend)

/-- LIST_READ (R76). -/
def execListRead (s : State) : Host.Outcome State Fault Refusal :=
  whileLive s (State.serve 0x1A anyPayload runListRead)

end Sys2Proof.Machine
end

