-- ==== Sys2Proof/Machine/PaceEvents.lean ====
section
/-! DEFINITION. The trigger input, the pass start, the pace timer, the scan clock's wrap and the retransmit timer (R80,
R82 to R85, R134). -/

namespace Sys2Proof.Machine

/-- The pass number after a pass number: 65535 wraps to 1 (R82). -/
def nextPass (n : Nat) : Nat := if 65535 ≤ n then 1 else n + 1

/-- A pass starts (R82): an ARMED scan with the rail READY and the pace condition holding. The continuation is the start
of step 0, and it is taken at once. -/
def State.startPass (s : State) : State :=
  if s.seq.scan = .armed ∧ s.rail.state = .ready ∧ s.paceHolds = true then
    (s.withSeq { s.seq with
      scan := .running, pass := nextPass s.seq.pass, passStart := s.seq.clockMs, step := 0, latch := false,
      paceDue := false, paceTimer := if s.settings.pace = .timed then some 0 else s.seq.paceTimer,
      cont := some .redoStep }).takeContinuation .redoStep
  else s

/-- The pass is late (R84): PACE_OVERRUN, but not during the last pass of a limited scan. -/
def State.latePass (s : State) : State :=
  if s.lastPass then s else s.raise .paceOverrun (BitVec.ofNat 16 s.seq.pass)

/-- The pace timer expires (R83): the pace-due mark is set, and what follows depends on the scan state. -/
def State.paceExpiry (s : State) : State :=
  match s.seq.paceTimer with
  | none => s
  | some t =>
    let later := s.advance (s.settings.intervalTicks - t)
    let due := later.withSeq { later.seq with paceTimer := none, paceDue := true }
    match s.seq.scan with
    | .running | .pausing | .held => due.latePass
    | .paused =>
      match s.seq.resume with
      | some (.within _) => due.latePass
      | some .toArmed => due
      | none => due
    | .idle | .armed | .faulted => due

/-- The ticks until the scan clock passes 4,294,967,295 ms (R80). -/
def Sequencer.ticksToWrap (q : Sequencer) : Nat := (4294967296 - q.clockMs.toNat) * 40 - q.clockTicks.val

/-- The scan clock wraps to 0 and runs on (R80). In IDLE it is stopped. -/
def State.clockWrap (s : State) : State :=
  match s.seq.scan with
  | .idle => s
  | .armed | .running | .pausing | .paused | .held | .faulted => s.advance s.seq.ticksToWrap

/-- The retransmit timer reaches 250 ms (R134): the in-flight records become returned, keeping their marks; the eighth
consecutive timeout stalls the stream. -/
def State.retransmit (s : State) : State :=
  match s.stream.timer with
  | none => s
  | some t =>
    let later := s.advance (Config.retransmitTicks - t)
    let back := later.withStream { later.stream with inFlight := 0, timer := none, timeouts := s.stream.timeouts + 1 }
    if Config.stallTimeouts ≤ s.stream.timeouts + 1 then
      (back.withStream { back.stream with state := .stalled }).raise .streamStalled s.queue.oldestSeq
    else back

/-- TRIG_EDGE (R85). -/
def execTrigEdge (s : State) : Host.Outcome State Fault Refusal := whileLive s State.triggerLatch

/-- PASS_START (R82). -/
def execPassStart (s : State) : Host.Outcome State Fault Refusal := whileLive s State.startPass

/-- PACE_TIMER_EXPIRY (R83). -/
def execPaceTimerExpiry (s : State) : Host.Outcome State Fault Refusal := whileLive s State.paceExpiry

/-- SCAN_CLOCK_WRAP (R80). -/
def execScanClockWrap (s : State) : Host.Outcome State Fault Refusal := whileLive s State.clockWrap

/-- RETRANSMIT_EXPIRY (R134). -/
def execRetransmitExpiry (s : State) : Host.Outcome State Fault Refusal := whileLive s State.retransmit

end Sys2Proof.Machine
end

