-- ==== Sys2Proof/Machine/PathEvents.lean ====
section
/-! DEFINITION. The timed events of the matrix (R44) and of the rail (R52 to R54). -/

namespace Sys2Proof.Machine

/-- SETTLE has ended (R44): the matrix enters CONNECTED and sends the connected report, on which the sequencer starts the
converter (R24). DESIGN CHOICE (log entry 17): the phase timer goes back to 0. -/
def State.settled (s : State) : State :=
  (s.withMatrix { s.matrix with phase := .connected, timer := 0 }).startConversion

/-- BREAK ends (R44): the target is connected and selected, and SETTLE begins; a settle time of 0 ends SETTLE at that
moment. -/
def State.endBreak (s : State) : State :=
  match s.matrix.phase, s.matrix.target with
  | .breaking, some t =>
    let later := s.advance (Config.breakTicks - s.matrix.timer)
    if t.settle = 0 then (later.withMatrix (.settleOn t)).settled else later.withMatrix (.settleOn t)
  | .breaking, none => s
  | .opened, _ | .settling, _ | .connected, _ => s

/-- SETTLE ends when the phase timer reaches the settle time (R44). -/
def State.endSettle (s : State) : State :=
  match s.matrix.phase with
  | .settling => (s.advance (s.matrix.phaseLimit - s.matrix.timer)).settled
  | .opened | .breaking | .connected => s

/-- The monitor finds a STARTING rail inside its window (R52). -/
def State.railInside (s : State) : State :=
  match s.rail.state with
  | .starting => s.withRail { s.rail with state := .ready, startTimer := none }
  | .off | .ready | .fault => s

/-- The start window timer reaches 30 ms (R52). -/
def State.railTimeout (s : State) : State :=
  match s.rail.state with
  | .starting => (s.advance (Config.startWindowTicks - s.rail.startTimer.getD 0)).railFault .startTimeout
  | .off | .ready | .fault => s

/-- The monitor finds a READY rail outside its window (R53). -/
def State.railDrop (s : State) : State :=
  match s.rail.state with
  | .ready => s.railFault .drop
  | .off | .starting | .fault => s

/-- The hold timer of a READY rail reaches 2000 ms (R54): the rail switches off. -/
def State.holdEnds (s : State) : State :=
  match s.rail.state, s.rail.holdTimer with
  | .ready, some t => (s.advance (Config.holdTicks - t)).withRail .off
  | .ready, none => s
  | .off, _ | .starting, _ | .fault, _ => s

/-- BREAK_END (R44). -/
def execBreakEnd (s : State) : Host.Outcome State Fault Refusal := whileLive s State.endBreak

/-- SETTLE_END (R44). -/
def execSettleEnd (s : State) : Host.Outcome State Fault Refusal := whileLive s State.endSettle

/-- RAIL_INSIDE_WINDOW (R52). -/
def execRailInsideWindow (s : State) : Host.Outcome State Fault Refusal := whileLive s State.railInside

/-- START_TIMEOUT (R52). -/
def execStartTimeout (s : State) : Host.Outcome State Fault Refusal := whileLive s State.railTimeout

/-- DROP (R53). -/
def execDrop (s : State) : Host.Outcome State Fault Refusal := whileLive s State.railDrop

/-- HOLD_EXPIRY (R54). -/
def execHoldExpiry (s : State) : Host.Outcome State Fault Refusal := whileLive s State.holdEnds

end Sys2Proof.Machine
end

