-- ==== Sys2Proof/Machine/QueueRequests.lean ====
section
/-! DEFINITION. FETCH, STREAM ON, STREAM OFF and ACK (R120, R127 to R129, R136 to R138). -/

namespace Sys2Proof.Machine

/-- The records a FETCH of n returns (R120). -/
def State.fetched (n : Nat) (s : State) : List Record := (s.queue.list.take n).map (·.record)

/-- FETCH (R120): the oldest min(n, depth) records leave the list and stand in the reply; then the slot drains (R116). -/
def runFetch (p : List Byte) (s : State) : Execution :=
  if p.length ≠ 1 then refuse .badLength s
  else if field8 p 0 = 0 ∨ Config.recordsPerFrame < field8 p 0 then refuse .badValue s
  else if s.stream.state ≠ .off then refuse .wrongMode s
  else
    replyDone (recordsBytes (s.fetched (field8 p 0)))
      ((s.withQueue { s.queue with list := s.queue.list.drop (field8 p 0) }).drain (s.fetched (field8 p 0)).length)

/-- A STREAM payload's field values are legal (R127): mode OFF, or mode ON with a window from 1 to 8. -/
def streamValuesLegal (p : List Byte) : Bool :=
  decide (field8 p 0 = 0) || (decide (field8 p 0 = 1) && decide (1 ≤ field8 p 1) && decide (field8 p 1 ≤ Config.maxWindow))

/-- The effect of STREAM ON (R128). -/
def State.streamOn (window : Nat) (s : State) : State :=
  s.makeAllFresh.withStream { s.makeAllFresh.stream with window := window, state := .on }

/-- The effect of STREAM OFF (R129). -/
def State.streamOff (s : State) : State := s.makeAllFresh.withStream { s.makeAllFresh.stream with state := .off }

/-- STREAM (R127 to R129). -/
def runStream (p : List Byte) (s : State) : Execution :=
  if p.length ≠ 2 then refuse .badLength s
  else if streamValuesLegal p = false then refuse .badValue s
  else if field8 p 0 = 1 then replyDone [] (s.streamOn (field8 p 1))
  else replyDone [] s.streamOff

/-- STREAM frames that are not a STREAM OFF: mode ON, and every one that is refused (log entry 4). -/
def isStreamOn (p : List Byte) : Bool := !(decide (p.length = 2) && decide (field8 p 0 = 0))

/-- STREAM frames that are not a STREAM ON: mode OFF, and every one that is refused (log entry 4). -/
def isStreamOff (p : List Byte) : Bool := !(decide (p.length = 2) && decide (field8 p 0 = 1))

/-- The sequence number of the newest marked record (R137). -/
def ResultQueue.newestMarked (q : ResultQueue) : Option Word16 :=
  ((q.list.filter (·.sent)).getLast?).map (·.record.seq)

/-- Whether an ACK of q is an acknowledgement (R137). -/
def ResultQueue.acknowledges (q : ResultQueue) (a : Word16) : Bool :=
  match q.newestMarked with
  | some e => decide (seqDistance q.oldestSeq a ≤ seqDistance q.oldestSeq e)
  | none => false

/-- The records an acknowledgement of a removes (R137). -/
def ResultQueue.ackRemoves (q : ResultQueue) (a : Word16) (e : Queued) : Bool :=
  e.sent && decide (seqDistance q.oldestSeq e.record.seq ≤ seqDistance q.oldestSeq a)

/-- A duplicate ACK (R138): one of the 128 numbers just before the oldest record. -/
def ResultQueue.duplicateAck (q : ResultQueue) (a : Word16) : Bool :=
  decide (1 ≤ seqDistance a q.oldestSeq) && decide (seqDistance a q.oldestSeq ≤ 128)

/-- The effect of an acknowledgement (R137): the records leave, k falls by the in-flight ones among them, the timeout
count goes to 0, the timer restarts or stops, and the slot drains.
DESIGN CHOICE (log entry 20): its order with an admission on a full list under DROP_OLDEST matters, against the last
bullet of R140. -/
def State.acknowledge (a : Word16) (s : State) : State :=
  let removes := s.queue.ackRemoves a
  let k := s.stream.inFlight - ((s.queue.list.take s.stream.inFlight).filter removes).length
  let kept := s.queue.list.filter fun e => !removes e
  (((s.withQueue { s.queue with list := kept }).withStream
    { s.stream with inFlight := k, timeouts := 0, timer := if 0 < k then some 0 else none })).drain
      (s.queue.list.length - kept.length)

/-- ACK (R136 to R138): stream state, then acknowledgement, duplicate, or out of range. -/
def runAck (p : List Byte) (s : State) : Execution :=
  if p.length ≠ 2 then refuse .badLength s
  else if s.stream.state ≠ .on then refuse .wrongMode s
  else if s.queue.acknowledges (BitVec.ofNat 16 (field16 p 0)) then
    replyDone [] (s.acknowledge (BitVec.ofNat 16 (field16 p 0)))
  else if s.queue.duplicateAck (BitVec.ofNat 16 (field16 p 0)) then replyDone [] s
  else refuse .seqRange s

/-- FETCH (R120). -/
def execFetch (s : State) : Host.Outcome State Fault Refusal :=
  whileLive s (State.serve 0x28 anyPayload runFetch)

/-- STREAM with mode ON (R128). -/
def execStreamOn (s : State) : Host.Outcome State Fault Refusal :=
  whileLive s (State.serve 0x29 isStreamOn runStream)

/-- STREAM with mode OFF (R129). -/
def execStreamOff (s : State) : Host.Outcome State Fault Refusal :=
  whileLive s (State.serve 0x29 isStreamOff runStream)

/-- ACK (R137). -/
def execAck (s : State) : Host.Outcome State Fault Refusal :=
  whileLive s (State.serve 0x2A anyPayload runAck)

end Sys2Proof.Machine
end

