-- ==== Sys2Proof/Machine/ResetEvents.lean ====
section
/-! DEFINITION. RESET_N and power-up (R171, R190). -/

namespace Sys2Proof.Machine

/-- Every block in its reset state, with these pins; the commands that wait are the senders', not the part's (R190). -/
def State.resetWith (pins : Pins) (s : State) : State := { State.reset with pins := pins, pending := s.pending }

/-- RESET_N is low (R190): every block goes to its reset state and stays there, and the straps are sampled (R171). The
rate in use is taken only when the line returns high. -/
def execResetNLow (rate1 rate0 : Bool) (s : State) : Host.Outcome State Fault Refusal :=
  .next (s.resetWith { resetLow := true, rate1 := rate1, rate0 := rate0, rate := s.pins.rate })

/-- RESET_N returns high (R190): the part starts from its reset state at the rate the last sampled straps select. On a
line that is high already nothing happens. -/
def execResetNHigh (s : State) : Host.Outcome State Fault Refusal :=
  .next (if s.pins.resetLow then
      s.resetWith { resetLow := false, rate1 := s.pins.rate1, rate0 := s.pins.rate0,
                    rate := Rate.ofStraps s.pins.rate1 s.pins.rate0 }
    else s)

/-- POWER_UP (R171, R190): a whole reset, with the straps read at power-up. With RESET_N high the part starts at the rate
they select; with RESET_N low it stays held in reset, as `execResetNLow` leaves it, until the line returns high.
DEDUCED (log entry 13): power-up does not move the line. -/
def execPowerUp (rate1 rate0 : Bool) (s : State) : Host.Outcome State Fault Refusal :=
  .next (s.resetWith { resetLow := s.pins.resetLow, rate1 := rate1, rate0 := rate0,
                       rate := if s.pins.resetLow then s.pins.rate else Rate.ofStraps rate1 rate0 })

end Sys2Proof.Machine
end

