-- ==== Sys2Proof/Machine/ScanRequests.lean ====
section
/-! DEFINITION. SCAN_SET, START, STOP, PAUSE, RESUME and TRIGGER (R77, R81, R85, R95, R97, R99). -/

namespace Sys2Proof.Machine

/-- The settings a SCAN_SET carries over the present ones, or none when a field value is refused (R77): the interval is
checked and stored only for TIMED. -/
def decodeScanSettings (p : List Byte) (now : Settings) : Option Settings :=
  match Pace.ofCode (field8 p 0), Policy.ofCode (field8 p 7) with
  | some .timed, some policy =>
    if 10 ≤ field32 p 1 ∧ field32 p 1 ≤ 600000 then
      some { pace := .timed, interval := field32 p 1, passes := field16 p 5, policy := policy }
    else none
  | some .free, some policy => some { pace := .free, interval := now.interval, passes := field16 p 5, policy := policy }
  | some .triggered, some policy =>
    some { pace := .triggered, interval := now.interval, passes := field16 p 5, policy := policy }
  | some _, none => none
  | none, _ => none

/-- SCAN_SET (R77). -/
def runScanSet (p : List Byte) (s : State) : Execution :=
  if p.length ≠ 8 then refuse .badLength s
  else
    match decodeScanSettings p s.settings with
    | none => refuse .badValue s
    | some c => if s.seq.scan ≠ .idle then refuse .busy s else replyDone [] (s.withSettings c)

/-- The effect of an accepted START (R81). -/
def State.beginScan (s : State) : State :=
  (s.withSeq { s.seq with scan := .armed, pass := 0, step := 0, sample := 0, passesDone := 0, acc := .empty,
                          paceDue := false, latch := false, clockMs := 0, clockTicks := 0 }).withRail s.rail.start

/-- START (R81): BUSY unless IDLE, then LIST_EMPTY. -/
def runStart (p : List Byte) (s : State) : Execution :=
  if p.length ≠ 0 then refuse .badLength s
  else if s.seq.scan ≠ .idle then refuse .busy s
  else if s.list = [] then refuse .listEmpty s
  else replyDone [] s.beginScan

/-- STOP (R99). -/
def runStop (p : List Byte) (s : State) : Execution :=
  if p.length ≠ 0 then refuse .badLength s else replyDone [] s.stopScan

/-- The effect of PAUSE by scan state, or none where it is refused with BUSY (R95). -/
def State.pauseScan (s : State) : Option State :=
  match s.seq.scan with
  | .running =>
    if s.conv.phase = .idle then some (s.pauseWithin .measure) else some (s.withSeq { s.seq with scan := .pausing })
  | .armed => some (s.withSeq { s.seq with scan := .paused, resume := some .toArmed })
  | .held => some (s.pauseWithin (s.seq.cont.getD .nextStep))
  | .pausing | .paused => some s
  | .idle | .faulted => none

/-- PAUSE (R95). -/
def runPause (p : List Byte) (s : State) : Execution :=
  if p.length ≠ 0 then refuse .badLength s
  else
    match s.pauseScan with
    | some t => replyDone [] t
    | none => refuse .busy s

/-- A PAUSED scan leaves PAUSED (R97): to HELD while the staging slot is occupied, to ARMED, or to RUNNING with its
resume point taken. -/
def State.resumePaused (s : State) : State :=
  match s.queue.staged, s.seq.resume with
  | some _, some (.within c) => s.withSeq { s.seq with scan := .held, cont := some c, resume := none }
  | some _, some .toArmed => s.withSeq { s.seq with scan := .held, cont := some .endPass, resume := none }
  | none, some .toArmed => s.withSeq { s.seq with scan := .armed, resume := none }
  | none, some (.within c) => (s.withSeq { s.seq with scan := .running, resume := none }).takeContinuation c
  | _, none => s

/-- The effect of RESUME by scan state, or none where it is refused with BUSY (R97). -/
def State.resumeScan (s : State) : Option State :=
  match s.seq.scan with
  | .pausing => some (s.withSeq { s.seq with scan := .running })
  | .paused => some s.resumePaused
  | .running => some s
  | .idle | .armed | .held | .faulted => none

/-- RESUME (R97). -/
def runResume (p : List Byte) (s : State) : Execution :=
  if p.length ≠ 0 then refuse .badLength s
  else
    match s.resumeScan with
    | some t => replyDone [] t
    | none => refuse .busy s

/-- TRIGGER (R85): DONE in every state. -/
def runTrigger (p : List Byte) (s : State) : Execution :=
  if p.length ≠ 0 then refuse .badLength s else replyDone [] s.triggerLatch

/-- SCAN_SET (R77). -/
def execScanSet (s : State) : Host.Outcome State Fault Refusal :=
  whileLive s (State.serve 0x20 anyPayload runScanSet)

/-- START (R81). -/
def execStart (s : State) : Host.Outcome State Fault Refusal :=
  whileLive s (State.serve 0x21 anyPayload runStart)

/-- STOP (R99). -/
def execStop (s : State) : Host.Outcome State Fault Refusal :=
  whileLive s (State.serve 0x22 anyPayload runStop)

/-- PAUSE (R95). -/
def execPause (s : State) : Host.Outcome State Fault Refusal :=
  whileLive s (State.serve 0x23 anyPayload runPause)

/-- RESUME (R97). -/
def execResume (s : State) : Host.Outcome State Fault Refusal :=
  whileLive s (State.serve 0x24 anyPayload runResume)

/-- TRIGGER (R85). -/
def execTrigger (s : State) : Host.Outcome State Fault Refusal :=
  whileLive s (State.serve 0x25 anyPayload runTrigger)

end Sys2Proof.Machine
end

