-- ==== Sys2Proof/Machine/TripRequests.lean ====
section
/-! DEFINITION. The three operations of TRIP_CONTROL (R150 to R152). -/

namespace Sys2Proof.Machine

/-- The mode changes and the line level takes the value the new mode gives it (R151). -/
def State.setLineMode (m : LineMode) (s : State) : State := (s.withLimit { s.limit with mode := m }).updateLine

/-- The latch is cleared, and the line follows where the mode is LATCHED (R152). -/
def State.clearLatch (s : State) : State := (s.withLimit { s.limit with latch := false }).updateLine

/-- The reply to TRIP_CONTROL after its outcome: mode, latch and line after the operation (R150, R198). -/
def State.tripBytes (s : State) : List Byte :=
  [byteOf s.limit.mode.code, boolByte s.limit.latch, boolByte s.limit.line]

/-- TRIP_CONTROL (R150). -/
def runTripControl (p : List Byte) (s : State) : Execution :=
  if p.length ≠ 1 then refuse .badLength s
  else
    match field8 p 0 with
    | 0 => replyDone (s.setLineMode .follow).tripBytes (s.setLineMode .follow)
    | 1 => replyDone (s.setLineMode .latched).tripBytes (s.setLineMode .latched)
    | 2 => replyDone s.clearLatch.tripBytes s.clearLatch
    | _ => refuse .badValue s

/-- TRIP_CONTROL frames of one operation, or refused ones (log entry 4): not one of the other two operations. -/
def isTripOperation (op : Nat) (p : List Byte) : Bool :=
  !(decide (p.length = 1) && decide (field8 p 0 < 3) && decide (field8 p 0 ≠ op))

/-- TRIP_CONTROL with the operation MODE_FOLLOW (R151). -/
def execModeFollow (s : State) : Host.Outcome State Fault Refusal :=
  whileLive s (State.serve 0x32 (isTripOperation 0) runTripControl)

/-- TRIP_CONTROL with the operation MODE_LATCHED (R151). -/
def execModeLatched (s : State) : Host.Outcome State Fault Refusal :=
  whileLive s (State.serve 0x32 (isTripOperation 1) runTripControl)

/-- TRIP_CONTROL with the operation CLEAR_LATCH (R152). -/
def execClearLatch (s : State) : Host.Outcome State Fault Refusal :=
  whileLive s (State.serve 0x32 (isTripOperation 2) runTripControl)

end Sys2Proof.Machine
end

