-- ==== Sys2Proof/Machine/Dispatch.lean ====
section
/-! DEFINITION. The effect of every command: one arm per row of the table, each one direct call of its meaning. -/

namespace Sys2Proof.Machine

/-- The effect of a command on everything but the queue of waiting commands. -/
def exec (i : Instr) (s : State) : Host.Outcome State Fault Refusal :=
  match i with
  | .identify => Sys2Proof.Machine.execIdentify s
  | .status => Sys2Proof.Machine.execStatus s
  | .restart => Sys2Proof.Machine.execRestart s
  | .channelSet => Sys2Proof.Machine.execChannelSet s
  | .channelGet => Sys2Proof.Machine.execChannelGet s
  | .channelOff => Sys2Proof.Machine.execChannelOff s
  | .listClear => Sys2Proof.Machine.execListClear s
  | .listAppend => Sys2Proof.Machine.execListAppend s
  | .listRead => Sys2Proof.Machine.execListRead s
  | .scanSet => Sys2Proof.Machine.execScanSet s
  | .start => Sys2Proof.Machine.execStart s
  | .stop => Sys2Proof.Machine.execStop s
  | .pause => Sys2Proof.Machine.execPause s
  | .resume => Sys2Proof.Machine.execResume s
  | .trigger => Sys2Proof.Machine.execTrigger s
  | .fetch => Sys2Proof.Machine.execFetch s
  | .streamOn => Sys2Proof.Machine.execStreamOn s
  | .streamOff => Sys2Proof.Machine.execStreamOff s
  | .ack => Sys2Proof.Machine.execAck s
  | .events => Sys2Proof.Machine.execEvents s
  | .subscribe => Sys2Proof.Machine.execSubscribe s
  | .modeFollow => Sys2Proof.Machine.execModeFollow s
  | .modeLatched => Sys2Proof.Machine.execModeLatched s
  | .clearLatch => Sys2Proof.Machine.execClearLatch s
  | .unknownKind => Sys2Proof.Machine.execUnknownKind s
  | .badToken => Sys2Proof.Machine.execBadToken s
  | .repeatCacheMatch => Sys2Proof.Machine.execRepeatCacheMatch s
  | .goodCharacter b => Sys2Proof.Machine.execGoodCharacter b s
  | .damagedCharacter => Sys2Proof.Machine.execDamagedCharacter s
  | .gapTimerExpiry => Sys2Proof.Machine.execGapTimerExpiry s
  | .sendReply => Sys2Proof.Machine.execSendReply s
  | .eventReport => Sys2Proof.Machine.execEventReport s
  | .resultReport => Sys2Proof.Machine.execResultReport s
  | .frameSent => Sys2Proof.Machine.execFrameSent s
  | .resetNLow rate1 rate0 => Sys2Proof.Machine.execResetNLow rate1 rate0 s
  | .resetNHigh => Sys2Proof.Machine.execResetNHigh s
  | .powerUp rate1 rate0 => Sys2Proof.Machine.execPowerUp rate1 rate0 s
  | .trigEdge => Sys2Proof.Machine.execTrigEdge s
  | .zeroEnd => Sys2Proof.Machine.execZeroEnd s
  | .integrateEnd input => Sys2Proof.Machine.execIntegrateEnd input s
  | .deintegrateCrossing => Sys2Proof.Machine.execDeintegrateCrossing s
  | .deintegrateLimit => Sys2Proof.Machine.execDeintegrateLimit s
  | .breakEnd => Sys2Proof.Machine.execBreakEnd s
  | .settleEnd => Sys2Proof.Machine.execSettleEnd s
  | .railInsideWindow => Sys2Proof.Machine.execRailInsideWindow s
  | .startTimeout => Sys2Proof.Machine.execStartTimeout s
  | .drop => Sys2Proof.Machine.execDrop s
  | .holdExpiry => Sys2Proof.Machine.execHoldExpiry s
  | .passStart => Sys2Proof.Machine.execPassStart s
  | .paceTimerExpiry => Sys2Proof.Machine.execPaceTimerExpiry s
  | .scanClockWrap => Sys2Proof.Machine.execScanClockWrap s
  | .retransmitExpiry => Sys2Proof.Machine.execRetransmitExpiry s

end Sys2Proof.Machine
end

