-- ==== Sys2Proof/Safety.lean ====
section
/-! DEFINITION. The laws that hold of the part at all times: the sentences in which the guide says what is never, or
always, the case. Each is a decidable statement about one state. -/

namespace Sys2Proof.Machine

/-! ## The message link -/

/-- The receiver's assembly: a BODY still lacks bytes of a legal LEN, and a CHECK has them all (R174, R175). -/
def Receiver.wf : Receiver → Bool
  | .hunt => true
  | .length => true
  | .body len got => decide (2 ≤ len) && decide (len ≤ 62) && decide (got.length < len)
  | .check len got crcBytes =>
    decide (2 ≤ len) && decide (len ≤ 62) && decide (got.length = len) && decide (crcBytes.length ≤ 1)

/-- The queues of the link hold at most 4 each (R178), the gap timer runs exactly outside HUNT (R174, R177), and the
counters stay within 16 bits (R174). -/
abbrev LinkLaw (s : State) : Prop :=
  s.link.inbound.length ≤ 4 ∧ s.link.replies.length ≤ 4 ∧ s.link.receiver.wf = true
    ∧ (s.link.gapTimer.isSome = true ↔ s.link.receiver ≠ .hunt)
    ∧ s.link.framingCount ≤ 65535 ∧ s.link.checkCount ≤ 65535 ∧ s.link.overflowCount ≤ 65535

/-- The cached reply is the reply to the cached request: its kind plus 80h and its token (R181, R182). -/
abbrev CacheLaw (s : State) : Prop :=
  ∀ e ∈ s.link.cache, isRequestKind e.1.kind = true ∧ e.1.token ≠ 0 ∧ e.2.kind = replyKind e.1.kind
    ∧ e.2.token = e.1.token

/-- Every reply that waits, and the one in the cache, has a payload of 1 to 60 bytes, so that it fits a frame
(R172, R198). -/
abbrev ReplyLaw (s : State) : Prop :=
  (∀ r ∈ s.link.replies, 1 ≤ r.payload.length ∧ r.payload.length ≤ 60)
    ∧ (∀ e ∈ s.link.cache, 1 ≤ e.2.payload.length ∧ e.2.payload.length ≤ 60)

/-! ## The event table -/

/-- An entry of the table (R158): pending exactly when its count is at least 1, the count never above 255, detail 0
when not pending, report-due only while pending and subscribed. -/
abbrev EntryLaw (t : EventTable) (k : EventKind) : Prop :=
  ((t.get k).pending = true ↔ 1 ≤ (t.get k).count) ∧ (t.get k).count ≤ 255
    ∧ ((t.get k).pending = false → (t.get k).detail = 0)
    ∧ ((t.get k).due = true → (t.get k).pending = true ∧ t.subscribed k = true)

/-- The law of the event table (R158), with a subscription set that names only kinds 1 to 9. -/
abbrev EventLaw (s : State) : Prop :=
  (∀ k ∈ eventKinds, EntryLaw s.events k) ∧ eventSetLegal s.events.subscription = true

/-! ## The limit monitor -/

/-- The law of the TRIP line (R149). -/
abbrev LineLaw (s : State) : Prop := s.limit.line = lineLevel s.limit.mode s.limit.latch s.table

/-! ## The scan list -/

/-- The list never holds more than 64 steps (R73). -/
abbrev ListLaw (s : State) : Prop := s.list.length ≤ 64

/-! ## The scan's place -/

/-- The scan is within a pass: RUNNING, PAUSING, HELD, or PAUSED with a continuation as resume point. -/
def State.withinPass (s : State) : Bool :=
  match s.seq.scan with
  | .running | .pausing | .held => true
  | .paused =>
    match s.seq.resume with
    | some (.within _) => true
    | some .toArmed => false
    | none => false
  | .idle | .armed | .faulted => false

/-! ## The result queue and the stream -/

/-- The first law of R110: at most 128 records; the staging slot is occupied only while the scan is HELD, PAUSED within
a pass (R97) or FAULTED, and only while the list is full. -/
abbrev QueueLaw (s : State) : Prop :=
  s.queue.list.length ≤ 128
    ∧ (s.queue.staged.isSome = true →
        s.queue.list.length = 128
          ∧ (s.seq.scan = .held ∨ s.seq.scan = .faulted ∨ (s.seq.scan = .paused ∧ s.seq.resume ≠ some .toArmed)))

/-- The number of records with the sent mark. -/
def ResultQueue.marked (q : ResultQueue) : Nat := (q.list.filter (·.sent)).length

/-- The marked records stand at the oldest end of the list (R111, R126). -/
def ResultQueue.marksFirst (q : ResultQueue) : Bool := (q.list.dropWhile (·.sent)).all fun e => !e.sent

/-- The law of R126: the marked records are the oldest, the in-flight ones first among them; their count never exceeds
W, itself 1 to 8; nothing is in flight unless the stream is ON, and nothing is marked while it is OFF; the retransmit
timer runs only while k is above 0 (R133). -/
abbrev StreamLaw (s : State) : Prop :=
  1 ≤ s.stream.window ∧ s.stream.window ≤ 8 ∧ s.queue.marksFirst = true
    ∧ s.stream.inFlight ≤ s.queue.marked ∧ s.queue.marked ≤ s.stream.window
    ∧ (s.stream.state ≠ .on → s.stream.inFlight = 0) ∧ (s.stream.state = .off → s.queue.marked = 0)
    ∧ (s.stream.timer.isSome = true ↔ 0 < s.stream.inFlight)
    ∧ s.stream.timeouts ≤ 8 ∧ (s.stream.state = .on → s.stream.timeouts ≤ 7)

/-! ## The measurement path: converter, matrix, rail and scan -/

/-- The converter's law at the end of R22, with IDLE holding its IDLE values. -/
abbrev ConverterLaw (s : State) : Prop :=
  (s.conv.phase = .idle → s.conv = .idle)
    ∧ (s.conv.phase ≠ .idle → s.matrix.phase = .connected ∧ (s.seq.scan = .running ∨ s.seq.scan = .pausing))

/-- What the matrix holds in each phase (R40). -/
abbrev MatrixShape (m : Matrix) : Prop :=
  (m.phase = .opened → m = .opened)
    ∧ (m.phase = .breaking → m.channel = none ∧ m.selection = none ∧ m.excitation = false ∧ m.target.isSome = true)
    ∧ (m.phase = .settling ∨ m.phase = .connected →
        m.target.isSome = true ∧ m.channel = m.target.map (·.channel)
          ∧ m.selection = m.target.map (fun t => (t.function, t.range))
          ∧ m.excitation = decide (m.target.map (·.function) = some .ohms))

/-- The law at the end of R40: a channel is connected only while the rail is READY and the scan is RUNNING, PAUSING or
HELD; a connection is being made only then either. -/
abbrev MatrixLaw (s : State) : Prop :=
  MatrixShape s.matrix
    ∧ (s.matrix.phase ≠ .opened →
        s.rail.state = .ready ∧ (s.seq.scan = .running ∨ s.seq.scan = .pausing ∨ s.seq.scan = .held))

/-- How the rail stands in each scan state (R50, R54 to R56, R98): its timers run exactly where R50 says, and a READY
rail is in its hold time exactly when the scan is IDLE. -/
abbrev RailLaw (s : State) : Prop :=
  (s.rail.startTimer.isSome = true ↔ s.rail.state = .starting)
    ∧ (s.rail.cause.isSome = true ↔ s.rail.state = .fault)
    ∧ (s.rail.holdTimer.isSome = true ↔ s.rail.state = .ready ∧ s.seq.scan = .idle)
    ∧ (s.seq.scan = .faulted ↔ s.rail.state = .fault)
    ∧ (s.seq.scan = .idle → s.rail.state = .off ∨ s.rail.state = .ready)
    ∧ (s.withinPass = true → s.rail.state = .ready)
    ∧ (s.seq.scan = .armed ∨ s.seq.scan = .paused → s.rail.state = .starting ∨ s.rail.state = .ready)

/-- A PAUSING scan has its conversion running (R95, R96). -/
abbrev PausingLaw (s : State) : Prop := s.seq.scan = .pausing → s.conv.phase ≠ .idle

/-- The laws of the measurement path, which hold one another up (R22, R40, R47, R54). -/
abbrev PathLaw (s : State) : Prop := ConverterLaw s ∧ MatrixLaw s ∧ RailLaw s ∧ PausingLaw s

/-- Where a scan within a pass stands: at a step of the list; HELD holds a continuation, PAUSED a resume point; and a
RUNNING scan always has a conversion running or a connection being made, the two rows R95 gives PAUSE in RUNNING. -/
abbrev ProgressLaw (s : State) : Prop :=
  (s.withinPass = true → s.seq.step < s.list.length)
    ∧ (s.seq.scan = .held → s.seq.cont.isSome = true)
    ∧ (s.seq.scan = .paused → s.seq.resume.isSome = true)
    ∧ (s.seq.scan = .running →
        s.conv.phase ≠ .idle ∨ s.matrix.phase = .breaking ∨ s.matrix.phase = .settling)

/-! ## The channel table, ranging and the records -/

/-- Whether a range setting is one its function may have (R4). -/
def RangeSetting.fits (f : MeasFunction) : RangeSetting → Bool
  | .fixed r => decide (r ≤ highestRange f)
  | .auto => true

/-- Whether an optional window, if there is one, meets the conditions of R8. -/
def windowFits : Option Window → Bool
  | some w => windowLegal w
  | none => true

/-- Whether an optional range index, if there is one, is valid for a function. -/
def rangeFits (f : MeasFunction) : Option Nat → Bool
  | some r => decide (r ≤ highestRange f)
  | none => true

/-- A record of the table holds only values its fields allow (R1, R4, R7, R8, R10). -/
abbrev ChannelLaw (c : Channel) : Prop :=
  c.range.fits c.function = true ∧ c.settle ≤ 250 ∧ windowFits c.window = true ∧ c.remembered ≤ highestRange c.function

/-- A sample is being measured, or a MEAN step stands between its samples: where range control holds state (R59). -/
def State.sampleInProgress (s : State) : Bool :=
  match s.seq.scan with
  | .running | .pausing => true
  | .paused =>
    match s.seq.resume with
    | some (.within .measure) | some (.within .nextSample) => true
    | some (.within .redoStep) | some (.within .nextStep) | some (.within .endPass) | some .toArmed | none => false
  | .idle | .armed | .held | .faulted => false

/-- Every channel record is lawful; range control holds state only while a sample is in progress (R59, R72), holds none
while a record waits in the staging slot (R72), makes at most 4 changes (R64), and its sample range and step lock are
valid for the channel of the step, the lock in MEAN steps only; a running conversion is of that channel's function
(R26). That the sample range and the change count read none and 0 where they have no meaning (R59) is the model's own (log
entry 18). -/
abbrev RangeLaw (s : State) : Prop :=
  (∀ n : Fin 24, ChannelLaw s.table[n]) ∧ s.ranging.changes ≤ 4
    ∧ (s.sampleInProgress = false → s.ranging = .dropped)
    ∧ (s.queue.staged.isSome = true → s.ranging = .dropped)
    ∧ (∀ st ∈ s.currentStep,
        rangeFits s.table[st.channel].function s.ranging.sampleRange = true
          ∧ rangeFits s.table[st.channel].function s.ranging.lock = true
          ∧ (s.ranging.lock.isSome = true → st.mean = true)
          ∧ (s.conv.phase ≠ .idle → s.conv.function = some s.table[st.channel].function))

/-- A record's range is a valid index of its function and its value is its count times the unit, and a SKIPPED record
carries zeros and no flag but REDONE (R104, R105). -/
def Record.lawful (r : Record) : Bool :=
  match r.function with
  | some f =>
    decide (r.range ≤ highestRange f) && decide (r.value = normalized f r.range r.count) && !r.flags.skipped
  | none =>
    decide (r.range = 0) && decide (r.count = 0) && decide (r.value = 0) && decide (r.sample = 0)
      && decide (r.flags = { RecordFlags.none with skipped := true, redone := r.flags.redone })

/-- Every record in the list and in the staging slot is lawful (R104, R105). -/
abbrev RecordsLaw (s : State) : Prop :=
  (∀ e ∈ s.queue.list, e.record.lawful = true) ∧ (∀ r ∈ s.queue.staged, r.lawful = true)

/-- All the laws together: what holds of the part at all times. -/
abbrev Lawful (s : State) : Prop :=
  LinkLaw s ∧ EventLaw s ∧ LineLaw s ∧ ListLaw s ∧ QueueLaw s ∧ StreamLaw s ∧ PathLaw s ∧ ProgressLaw s ∧ RangeLaw s
    ∧ RecordsLaw s

/-! ## The words the statements use -/

/-- The request processor takes this frame now and executes it (R179): the part runs, the frame is the oldest of the
inbound queue, the reply queue has room, the token is not 0, and the frame does not match the repeat cache. -/
abbrev State.Executes (s : State) (f : Frame) (rest : List Frame) : Prop :=
  s.pins.resetLow = false ∧ s.link.inbound = f :: rest ∧ s.link.replies.length < 4 ∧ f.token ≠ 0
    ∧ ∀ e ∈ s.link.cache, e.1 ≠ f

/-- The state after the request of a frame has had its effect: the frame has left the inbound queue, its reply has
joined the reply queue, and the repeat cache holds the two (R179, R181, R182). -/
def State.answered (s : State) (f : Frame) (rest : List Frame) (payload : List Byte) : State :=
  let reply : Frame := { kind := replyKind f.kind, token := f.token, payload := payload }
  s.withLink { s.link with inbound := rest, replies := s.link.replies ++ [reply], cache := some (f, reply) }

/-- Good characters received one after another with no time between them. -/
def takeCharacters : List Byte → State → Host.Outcome State Fault Refusal
  | [], s => .next s
  | b :: rest, s =>
    match exec (.goodCharacter b) s with
    | .next t => takeCharacters rest t
    | .fault r => .fault r
    | .refused r => .refused r

/-- The rows that execute a request (R193). -/
def requestRows : List Instr :=
  [.identify, .status, .restart, .channelSet, .channelGet, .channelOff, .listClear, .listAppend, .listRead, .scanSet,
   .start, .stop, .pause, .resume, .trigger, .fetch, .streamOn, .streamOff, .ack, .events, .subscribe, .modeFollow,
   .modeLatched, .clearLatch]

/-- The rows by which reset comes in (R190). -/
def isResetRow : Instr → Bool
  | .resetNLow _ _ | .resetNHigh | .powerUp _ _ => true
  | .identify | .status | .restart | .channelSet | .channelGet | .channelOff | .listClear | .listAppend | .listRead
  | .scanSet | .start | .stop | .pause | .resume | .trigger | .fetch | .streamOn | .streamOff | .ack | .events
  | .subscribe | .modeFollow | .modeLatched | .clearLatch | .unknownKind | .badToken | .repeatCacheMatch
  | .goodCharacter _ | .damagedCharacter | .gapTimerExpiry | .sendReply | .eventReport | .resultReport | .frameSent
  | .trigEdge | .zeroEnd | .integrateEnd _ | .deintegrateCrossing | .deintegrateLimit | .breakEnd | .settleEnd
  | .railInsideWindow | .startTimeout | .drop | .holdExpiry | .passStart | .paceTimerExpiry | .scanClockWrap
  | .retransmitExpiry => false

/-- The part has nothing to send and nothing to answer, and will raise no report by itself (R190). -/
abbrev Silent (s : State) : Prop :=
  s.link.sending = none ∧ s.link.replies = [] ∧ s.link.inbound = [] ∧ s.stream.state = .off ∧ s.stream.timer = none
    ∧ s.events.subscription = 0 ∧ ∀ k ∈ eventKinds, (s.events.get k).due = false

/-- The scan clock in ticks: milliseconds and the ticks of the current one (R80). -/
def Sequencer.clock (q : Sequencer) : Nat := q.clockMs.toNat * 40 + q.clockTicks.val

/-- The scan clock wraps after 4,294,967,296 ms (R80). -/
def clockPeriod : Nat := 4294967296 * 40

/-- The payload of a CHANNEL_SET (R194); `unused` stands in the twelve window bytes where the window is absent. -/
def ChannelSettings.payload (n : Fin 24) (c : ChannelSettings) (unused : List Byte) : List Byte :=
  [byteOf n.val, (match c.function with | .volt => 0x01 | .curr => 0x02 | .ohms => 0x03),
    (match c.range with | .fixed r => byteOf r | .auto => 0x80), (match c.mode with | .normal => 0x00 | .fast => 0x01),
    byteOf c.settle]
    ++ (match c.window with
        | none => 0x00 :: unused
        | some w => 0x01 :: (signedBytes32 w.low ++ signedBytes32 w.high ++ bytes32 w.hysteresis))

/-- Settings that a CHANNEL_SET may carry (R4, R7, R8). -/
abbrev ChannelSettings.Legal (c : ChannelSettings) : Prop :=
  c.range.fits c.function = true ∧ c.settle ≤ 250
    ∧ ∀ w ∈ c.window, windowLegal w = true ∧ -2147483648 ≤ w.low ∧ w.high ≤ 2147483647

/-- A step that a LIST_APPEND may carry (R73). -/
abbrev Step.Legal (st : Step) : Prop := 1 ≤ st.samples ∧ st.samples ≤ 16

/-- The conversion in progress is the current step's, and would hand its outcome to it: the scan is RUNNING or PAUSING
at the step, the matrix is CONNECTED to its channel on a range, and the rail is READY (R24, R40). -/
abbrev State.ConvertsFor (s : State) (st : Step) (range : Nat) : Prop :=
  s.pins.resetLow = false ∧ s.currentStep = some st ∧ s.conv.phase = .deintegrate
    ∧ s.conv.function = some s.table[st.channel].function ∧ s.conv.mode.isSome = true
    ∧ s.ranging.sampleRange = some range ∧ s.matrix.phase = .connected ∧ s.matrix.channel = some st.channel
    ∧ s.matrix.selection = some (s.table[st.channel].function, range) ∧ s.rail.state = .ready

/-- Sequence numbers, counted forward from a base, strictly increase along a list (R110). -/
def increasingFrom (base : Word16) : List Queued → Bool
  | [] => true
  | [_] => true
  | a :: b :: rest =>
    decide (seqDistance base a.record.seq < seqDistance base b.record.seq) && increasingFrom base (b :: rest)

/-- The second law of R110 while the numbers given out since a base number have not come round to it: along the list the
numbers increase, a staged record's follows them, and the next number follows all. -/
abbrev SeqLaw (base : Word16) (q : ResultQueue) : Prop :=
  increasingFrom base q.list = true
    ∧ (∀ e ∈ q.list, seqDistance base e.record.seq < seqDistance base q.nextSeq)
    ∧ (∀ r ∈ q.staged, seqDistance base r.seq < seqDistance base q.nextSeq
        ∧ ∀ e ∈ q.list, seqDistance base e.record.seq < seqDistance base r.seq)

/-- The converter's next event completes the conversion: by which command, with which reported count and overrange flag,
and after how many ticks (R30, R33, R34). -/
abbrev State.Delivers (s : State) (md : Mode) (c : Instr) (count : Int) (ovr : Bool) (wait : Nat) : Prop :=
  s.conv.mode = some md ∧
    ((c = .deintegrateCrossing ∧ ovr = false
        ∧ ∃ m ∈ s.conv.crossing, wait = m - s.conv.ticks
            ∧ count = (if s.conv.polarity = .negative then -1 else 1) * (if md = .fast then 10 else 1) * (m : Int))
      ∨ (c = .deintegrateLimit ∧ ovr = true ∧ s.conv.crossing = none
          ∧ wait = (if md = .fast then 440 else 4400) - s.conv.ticks
          ∧ count = if s.conv.polarity = .negative then -4400 else 4400))

/-- A measured record of the current step as it is produced (R89, R104), before the Limit Monitor sees it. -/
def State.measuredRecord (s : State) (st : Step) (md : Mode) (range : Nat) (count : Int) (ovr hunt : Bool)
    (time : Word32) : Record :=
  { seq := s.queue.nextSeq, pass := s.seq.pass, step := s.seq.step, channel := st.channel, sample := s.seq.sample,
    function := some s.table[st.channel].function, range := range,
    flags := { overrange := ovr, hunt := hunt, fast := decide (md = .fast), mean := false, skipped := false,
               redone := s.seq.redo, trip := false },
    count := count, value := count * unitPerCount s.table[st.channel].function range, time := time }

/-- The outcome of an AUTO sample wants a change of range (R62): an overrange below the highest range, or a count below
360 in magnitude above range 0. -/
abbrev WantsChange (f : MeasFunction) (range : Nat) (count : Int) (ovr : Bool) : Prop :=
  (ovr = true ∧ range < highestRange f) ∨ (ovr = false ∧ count.natAbs < 360 ∧ 0 < range)

/-- Range control accepts an outcome of the step on this range, with or without HUNT: on a fixed range (R61); a later
sample of a MEAN step on its step lock (R68); any other AUTO sample that wants no change (R62, R65), or that wants one
after four changes (R64) or in PAUSING (R69). -/
abbrev State.Accepts (s : State) (st : Step) (range : Nat) (count : Int) (ovr hunt : Bool) : Prop :=
  (s.table[st.channel].range = .fixed range ∧ hunt = false)
    ∨ (s.table[st.channel].range = .auto ∧ st.mean = true ∧ s.ranging.lock = some range ∧ hunt = false)
    ∨ (s.table[st.channel].range = .auto ∧ (st.mean = false ∨ s.ranging.lock = none)
        ∧ (hunt = true ↔ WantsChange s.table[st.channel].function range count ovr)
        ∧ (hunt = true → s.seq.scan = .pausing ∨ 4 ≤ s.ranging.changes))

/-- The state in which the sample loop takes an accepted sample, after the time the conversion still had to run: the
converter is IDLE again (R35), the ranging of the sample has ended (R66), an AUTO channel remembers the range of a sample
without OVER (R67), and a MEAN step on AUTO is locked to its range (R68). The sample range and the change count read none
and 0 by the model's choice (log entry 18). -/
def State.afterAcceptance (s : State) (st : Step) (range wait : Nat) (ovr : Bool) : State :=
  { s.advance wait with
    table := if s.table[st.channel].range = .auto ∧ ovr = false
      then s.table.set st.channel { s.table[st.channel] with remembered := range } else s.table
    conv := .idle
    ranging := { sampleRange := none, changes := 0
                 lock := if s.table[st.channel].range = .auto ∧ st.mean = true then some range else s.ranging.lock } }

/-- A record of the step, its last or not, has been through admission, and `v` is the state then. The last record
completes the step, with its MARK (R91). What comes next is the next sample, the next step or the end of the pass (R88,
R91, R92). In RUNNING it is taken, or kept in HELD when the record was staged (R90, R93). In PAUSING the pass ends, when
it is that and the record was not staged; otherwise the scan is PAUSED before it, with the matrix open (R96), and it is
the resume point alone (log entry 19, DEDUCED). -/
abbrev GoesOnAfterRecord (st : Step) (last : Bool) (a : Admission) (v : State)
    (out : Host.Outcome State Fault Refusal) : Prop :=
  ∀ (w : State) (next : Continuation),
    w = (if last then { v with
          ranging := { v.ranging with lock := none }
          seq := { v.seq with acc := .empty }
          events := if st.mark then v.events.raise .mark (BitVec.ofNat 16 v.seq.step) else v.events } else v) →
    next = (if last then (if v.seq.step + 1 < v.list.length then .nextStep else .endPass) else .nextSample) →
    (v.seq.scan = .running → a = .goOn → out = .next (w.takeContinuation next))
    ∧ (v.seq.scan = .running → a = .hold → out = .next { w with seq := { w.seq with scan := .held, cont := some next } })
    ∧ (v.seq.scan = .pausing → a = .goOn → next = .endPass → out = .next (w.takeContinuation .endPass))
    ∧ (v.seq.scan = .pausing → a = .hold ∨ next ≠ .endPass → out = .next { w with
        matrix := .opened
        seq := { w.seq with scan := .paused, cont := none, resume := some (.within next) } })

/-- A converter just started for a step's channel (R24, R25). -/
def State.startedOn (s : State) (st : Step) : Converter :=
  { Converter.idle with
    phase := .zero, function := some s.table[st.channel].function, mode := some s.table[st.channel].mode }

/-- The matrix breaking to a step's channel on a range (R42, R60). -/
def State.breakingTo (s : State) (st : Step) (range : Nat) : Matrix :=
  { phase := .breaking, channel := none, selection := none, excitation := false, timer := 0,
    target := some { channel := st.channel, function := s.table[st.channel].function, range := range,
                     settle := s.table[st.channel].settle } }

end Sys2Proof.Machine
end

