-- ==== Sys2Proof/Certificates/Slice0/Obligations.lean ====
section
/-! DEFINITION. The statements about the model, for the provers: what the rules of the guide say that each command does,
and what holds at all times. -/

open Sys2Proof Sys2Proof.Machine

/-! ## The machine as a whole -/

/-- A step takes the command at the front of the queue and is its effect on the state with the queue's rest. -/
def Obligations.StepRunsTheFrontCommand : Prop :=
  ∀ (c : Instr) (rest : List Instr) (s : State), s.pending = c :: rest → step s = exec c (s.withPending rest)

/-- No command stops the machine, and none touches the commands that wait. That a command whose condition does not hold
changes nothing is the model's choice (log entry 3), and so is that reset keeps the waiting commands (log entry 13). -/
def Obligations.EveryCommandAnswersNextAndKeepsTheQueue : Prop :=
  ∀ (c : Instr) (s : State), ∃ t, exec c s = .next t ∧ t.pending = s.pending

/-- A low RESET_N puts every block in its reset state and samples the straps; the line's return high starts the part from
there at the rate the straps select; power-up is a whole reset with the straps it reads, after which the part runs at
their rate on a high line and stays held in reset on a low one; while the line is low no other command has any effect
(R171, R190). That a return high on a line that is high changes nothing, that power-up leaves the level of RESET_N as it
stands, that the rate in use stands until the line returns high, and that each low level resets anew is the model's
reading (log entry 13, DEDUCED), and that the commands that wait are kept is its choice (log entry 13). -/
def Obligations.ResetIsTakenAtOnceAndHoldsThePart : Prop :=
  (∀ (s : State) (rate1 rate0 : Bool),
      exec (.resetNLow rate1 rate0) s = .next { State.reset with
          pins := { resetLow := true, rate1 := rate1, rate0 := rate0, rate := s.pins.rate }, pending := s.pending }
      ∧ (s.pins.resetLow = true → exec .resetNHigh s = .next { State.reset with
          pins := { s.pins with resetLow := false, rate := Rate.ofStraps s.pins.rate1 s.pins.rate0 }, pending := s.pending })
      ∧ (s.pins.resetLow = false → exec .resetNHigh s = .next s)
      ∧ (s.pins.resetLow = false → exec (.powerUp rate1 rate0) s = .next { State.reset with
          pins := { resetLow := false, rate1 := rate1, rate0 := rate0, rate := Rate.ofStraps rate1 rate0 }
          pending := s.pending })
      ∧ (s.pins.resetLow = true → exec (.powerUp rate1 rate0) s = .next { State.reset with
          pins := { resetLow := true, rate1 := rate1, rate0 := rate0, rate := s.pins.rate }, pending := s.pending })
      ∧ Rate.ofStraps false false = .baud57600 ∧ Rate.ofStraps false true = .baud115200
      ∧ Rate.ofStraps true false = .baud230400 ∧ Rate.ofStraps true true = .baud460800)
  ∧ (∀ (c : Instr) (s : State), s.pins.resetLow = true → isResetRow c = false → exec c s = .next s)

/-- The values of the reset state, block by block (R12, R22, R40, R50, R59, R73, R77, R78, R110, R125, R144, R158,
R174), and every law holds of it. -/
def Obligations.ResetStateIsLawfulAndHoldsTheGuidesValues : Prop :=
  ((∀ n : Fin 24, State.reset.table[n]
        = { enabled := false, function := .volt, range := .auto, mode := .normal, settle := 5, window := none,
            remembered := 3, trip := .clear })
      ∧ State.reset.conv.phase = .idle ∧ State.reset.conv.ticks = 0 ∧ State.reset.conv.function = none
      ∧ State.reset.conv.mode = none ∧ State.reset.conv.polarity = .positive ∧ State.reset.conv.rawCount = 0
      ∧ State.reset.matrix.phase = .opened ∧ State.reset.matrix.channel = none ∧ State.reset.matrix.selection = none
      ∧ State.reset.matrix.excitation = false ∧ State.reset.matrix.target = none
      ∧ State.reset.rail = { state := .off, startTimer := none, holdTimer := none, cause := none }
      ∧ State.reset.ranging = { sampleRange := none, changes := 0, lock := none }
      ∧ State.reset.list = []
      ∧ State.reset.settings = { pace := .free, interval := 1000, passes := 1, policy := .stall }
      ∧ State.reset.seq = {
          scan := .idle, pass := 0, step := 0, sample := 0, passesDone := 0, cont := none,
          resume := none, acc := { sum := 0, overrange := false, hunt := false }, redo := false, paceTimer := none,
          paceDue := false, passStart := 0, latch := false, clockMs := 0, clockTicks := 0 }
      ∧ State.reset.queue = { list := [], staged := none, nextSeq := 0 }
      ∧ State.reset.stream = { state := .off, window := 4, inFlight := 0, timer := none, timeouts := 0 }
      ∧ State.reset.limit = { latch := false, mode := .latched, line := false }
      ∧ (∀ k : EventKind, State.reset.events.get k = { pending := false, count := 0, detail := 0, due := false })
      ∧ State.reset.events.subscription = 0
      ∧ State.reset.link = {
          receiver := .hunt, gapTimer := none, framingCount := 0, checkCount := 0, overflowCount := 0,
          inbound := [], replies := [], cache := none, sending := none })
  ∧ (Lawful State.reset ∧ CacheLaw State.reset ∧ ReplyLaw State.reset)

/-- The part is silent after reset and stays so until it has received a request: while no frame stands in the inbound
queue, whatever characters came in, it has nothing to send; and in no one step does it leave its silence by sending or
with a reply (R190). -/
def Obligations.SilentUntilARequestComes : Prop :=
  Silent State.reset
    ∧ ∀ (c : Instr) (s t : State), Silent s → exec c s = .next t →
        (t.link.inbound = [] → Silent t) ∧ ((∀ b, c ≠ .goodCharacter b) → Silent t)
          ∧ t.link.sending = none ∧ t.link.replies = []

/-- Reset apart, the scan list changes only in IDLE and only by LIST_CLEAR and LIST_APPEND, the scan settings only in
IDLE and only by SCAN_SET, and the six settings of a channel only by CHANNEL_SET, and by CHANNEL_OFF, which reaches the
enabled field alone (R13, R15, R18, R73, R77). -/
def Obligations.SettingsChangeOnlyByTheirRequests : Prop :=
  (∀ (c : Instr) (s t : State), exec c s = .next t → isResetRow c = false →
      (t.list ≠ s.list → s.seq.scan = .idle ∧ (c = .listClear ∨ c = .listAppend))
      ∧ (t.settings ≠ s.settings → s.seq.scan = .idle ∧ c = .scanSet))
  ∧ (∀ (c : Instr) (s t : State) (n : Fin 24), exec c s = .next t → isResetRow c = false → c ≠ .channelSet →
      { t.table[n] with enabled := s.table[n].enabled, remembered := s.table[n].remembered, trip := s.table[n].trip }
        = s.table[n]
      ∧ (c ≠ .channelOff → t.table[n].enabled = s.table[n].enabled))

/-- The trip latch, once set, is cleared only by CLEAR_LATCH, RESTART and reset (R148). -/
def Obligations.OnlyThreeThingsClearTheTripLatch : Prop :=
  ∀ (c : Instr) (s t : State), exec c s = .next t → s.limit.latch = true → t.limit.latch = false →
    c = .clearLatch ∨ c = .restart ∨ isResetRow c = true

/-! ## The message link -/

/-- What the receiver does with a good character, state by state (R175). -/
def Obligations.ReceiverTakesAGoodCharacter : Prop :=
  ∀ (s : State) (b : Byte), s.pins.resetLow = false →
    (s.link.receiver = .hunt → b ≠ 0xA5 → exec (.goodCharacter b) s = .next s)
    ∧ (s.link.receiver = .hunt → b = 0xA5 →
        exec (.goodCharacter b) s = .next (s.withLink { s.link with receiver := .length, gapTimer := some 0 }))
    ∧ (s.link.receiver = .length → 2 ≤ b.toNat → b.toNat ≤ 62 →
        exec (.goodCharacter b) s = .next (s.withLink { s.link with receiver := .body b.toNat [], gapTimer := some 0 }))
    ∧ (s.link.receiver = .length → b.toNat < 2 ∨ 62 < b.toNat →
        exec (.goodCharacter b) s = .next (s.withLink { s.link with
          receiver := .hunt, gapTimer := none, framingCount := min (s.link.framingCount + 1) 65535 }))
    ∧ (∀ len got, s.link.receiver = .body len got → got.length + 1 < len →
        exec (.goodCharacter b) s = .next (s.withLink { s.link with
          receiver := .body len (got ++ [b]), gapTimer := some 0 }))
    ∧ (∀ len got, s.link.receiver = .body len got → got.length + 1 = len →
        exec (.goodCharacter b) s = .next (s.withLink { s.link with
          receiver := .check len (got ++ [b]) [], gapTimer := some 0 }))
    ∧ (∀ len got, s.link.receiver = .check len got [] →
        exec (.goodCharacter b) s = .next (s.withLink { s.link with
          receiver := .check len got [b], gapTimer := some 0 }))
    ∧ (∀ len got high, s.link.receiver = .check len got [high] →
        (([high, b] ≠ bytes16 (crc (byteOf len :: got)).toNat →
            exec (.goodCharacter b) s = .next (s.withLink { s.link with
              receiver := .hunt, gapTimer := none, checkCount := min (s.link.checkCount + 1) 65535 }))
          ∧ ([high, b] = bytes16 (crc (byteOf len :: got)).toNat → s.link.inbound.length < 4 →
            exec (.goodCharacter b) s = .next (s.withLink { s.link with
              receiver := .hunt, gapTimer := none, inbound := s.link.inbound ++ [Frame.ofBody got] }))
          ∧ ([high, b] = bytes16 (crc (byteOf len :: got)).toNat → 4 ≤ s.link.inbound.length →
            exec (.goodCharacter b) s = .next (s.withLink { s.link with
              receiver := .hunt, gapTimer := none, overflowCount := min (s.link.overflowCount + 1) 65535 }))))

/-- A damaged character outside HUNT, and the gap timer's expiry, are framing failures: the frame under assembly is
discarded, the gap timer stops, the framing count goes up by 1 and the receiver enters HUNT; in HUNT a damaged character
is discarded, and a stopped gap timer does not expire (R176, R177). That the expiry lets the time left on the timer pass
for every block, and that a damaged character takes no time, is the model's choice (log entry 2). -/
def Obligations.FailedFrameIsDiscardedAndCounted : Prop :=
  (∀ s : State, s.pins.resetLow = false →
      (s.link.receiver = .hunt → exec .damagedCharacter s = .next s)
      ∧ (s.link.receiver ≠ .hunt → exec .damagedCharacter s = .next (s.withLink { s.link with
          receiver := .hunt, gapTimer := none, framingCount := min (s.link.framingCount + 1) 65535 })))
  ∧ (∀ s : State, s.pins.resetLow = false →
      (s.link.gapTimer = none → exec .gapTimerExpiry s = .next s)
      ∧ (∀ g, s.link.gapTimer = some g →
          exec .gapTimerExpiry s = .next ((s.advance (400 - g)).withLink { s.link with
            receiver := .hunt, gapTimer := none, framingCount := min (s.link.framingCount + 1) 65535 })))

/-- The CRC: FFFFh at the start, each byte into the high eight bits, eight shifts with 1021h, and 29B1h for "123456789"
(R173); the bytes of a frame on the wire (R172); and to a receiver that hunts they are that frame and nothing else: it
joins the inbound queue and every other part of the state is as before (R175). That characters take no time, so that
nothing else changes over several of them, is the model's choice (log entries 2 and 11). -/
def Obligations.FrameOnTheWireIsReceivedAsThatFrame : Prop :=
  (crc [] = 0xFFFF
      ∧ (∀ (bytes : List Byte) (b : Byte), crc (bytes ++ [b])
        = (fun r : Word16 => if r.getLsbD 15 = true then (r <<< 1) ^^^ 0x1021 else r <<< 1)^[8]
            (crc bytes ^^^ (b ++ (0x00 : Byte))))
      ∧ crc [0x31, 0x32, 0x33, 0x34, 0x35, 0x36, 0x37, 0x38, 0x39] = 0x29B1
      ∧ (∀ (f : Frame) (check : Word16),
          check = crc (byteOf (2 + f.payload.length) :: f.kind :: f.token :: f.payload) →
          f.wire = [0xA5, byteOf (2 + f.payload.length), f.kind, f.token] ++ f.payload
            ++ [check.extractLsb' 8 8, check.extractLsb' 0 8]))
  ∧ ∀ (s : State) (f : Frame), f.payload.length ≤ 60 → s.pins.resetLow = false → s.link.receiver = .hunt →
    s.link.gapTimer = none → s.link.inbound.length < 4 →
      takeCharacters f.wire s = .next (s.withLink { s.link with inbound := s.link.inbound ++ [f] })

/-- A frame of an unknown kind, a frame with token 0 and a frame that matches the repeat cache are answered without being
executed (R179, R180, R182). -/
def Obligations.FramesAnsweredWithoutExecution : Prop :=
  ∀ (s : State) (f : Frame) (rest : List Frame), s.pins.resetLow = false → s.link.inbound = f :: rest →
    s.link.replies.length < 4 →
    (isRequestKind f.kind = false →
      exec .unknownKind s = .next (s.withLink { s.link with
        inbound := rest, replies := s.link.replies ++ [{ kind := 0xFE, token := f.token, payload := [0x09, f.kind] }] }))
    ∧ (isRequestKind f.kind = true → f.token = 0 →
      exec .badToken s = .next (s.withLink { s.link with
        inbound := rest, replies := s.link.replies ++ [{ kind := f.kind + 0x80, token := 0, payload := [0x0A] }] }))
    ∧ (∀ reply, isRequestKind f.kind = true → f.token ≠ 0 → s.link.cache = some (f, reply) →
      exec .repeatCacheMatch s = .next (s.withLink { s.link with
        inbound := rest, replies := s.link.replies ++ [reply] }))

/-- Every request frame taken receives exactly one reply, of the kind, token and content R180 to R182 give it; the frame
is taken only while the reply queue has room; and a reply leaves only to the transmitter, from the oldest end (R178,
R179, R184). -/
def Obligations.EveryFrameTakenGetsExactlyOneReply : Prop :=
  ∀ (c : Instr) (s t : State), exec c s = .next t → isResetRow c = false → (∀ b, c ≠ .goodCharacter b) →
    (t.link.inbound = s.link.inbound
      ∧ (t.link.replies = s.link.replies
        ∨ ∃ r, s.link.replies = r :: t.link.replies ∧ s.link.sending = none ∧ t.link.sending = some r.wire))
    ∨ (s.link.replies.length < 4 ∧ t.link.sending = s.link.sending
      ∧ ∃ f reply, s.link.inbound = f :: t.link.inbound ∧ t.link.replies = s.link.replies ++ [reply]
        ∧ (isRequestKind f.kind = false →
            reply = { kind := 0xFE, token := f.token, payload := [0x09, f.kind] } ∧ t.link.cache = s.link.cache)
        ∧ (isRequestKind f.kind = true → f.token = 0 →
            reply = { kind := f.kind + 0x80, token := 0, payload := [0x0A] } ∧ t.link.cache = s.link.cache)
        ∧ (isRequestKind f.kind = true → f.token ≠ 0 →
            (t.link.cache = s.link.cache ∧ s.link.cache = some (f, reply))
            ∨ (s.link.cached f = none ∧ t.link.cache = some (f, reply) ∧ reply.kind = f.kind + 0x80
                ∧ reply.token = f.token)))

/-- A refused request changes nothing in any block: its reply carries the outcome byte alone, it leaves the inbound queue
and is cached, and all else stands (R181, R191). -/
def Obligations.RefusedRequestChangesNoBlock : Prop :=
  ∀ (c : Instr) (s t : State) (f : Frame) (rest : List Frame), c ∈ requestRows → s.Executes f rest →
    exec c s = .next t → t ≠ s →
      ∃ payload, t.link.cache = some (f, { kind := f.kind + 0x80, token := f.token, payload := payload })
        ∧ (payload.head? = some 0x00 ∨ (payload.length = 1 ∧ t = s.answered f rest payload))

/-- The arbiter of an idle transmitter: the oldest reply first; with no reply, the report of the lowest-numbered kind that
is report-due; and the transmitter is idle again when its frame is sent (R162, R184, R185). -/
def Obligations.ArbiterSendsRepliesThenEvents : Prop :=
  ∀ s : State, s.pins.resetLow = false →
    (∀ r rest, s.link.sending = none → s.link.replies = r :: rest →
      exec .sendReply s = .next (s.withLink { s.link with replies := rest, sending := some r.wire }))
    ∧ (∀ k e, s.link.sending = none → s.link.replies = [] → s.events.get k = e → e.due = true →
        (∀ j : EventKind, j.number < k.number → (s.events.get j).due = false) →
      exec .eventReport s = .next ((s.withEvents (s.events.set k { e with due := false })).withLink { s.link with
        sending := some (Frame.wire {
          kind := 0x41, token := 0,
          payload := [byteOf k.number, byteOf e.count] ++ bytes16 e.detail.toNat }) }))
    ∧ exec .frameSent s = .next (s.withLink { s.link with sending := none })
    ∧ (s.link.sending ≠ none → exec .sendReply s = .next s ∧ exec .eventReport s = .next s
        ∧ exec .resultReport s = .next s)
    ∧ (s.link.replies ≠ [] → exec .eventReport s = .next s ∧ exec .resultReport s = .next s)
    ∧ (∀ k : EventKind, (s.events.get k).due = true → exec .resultReport s = .next s)

/-- The composition of a RESULT report (R131, R132): it takes the oldest unsent records, as many as the smallest of 3,
W − k and the unsent records; they get the sent mark and join the in-flight region, and the timer starts if k was 0. With
the stream not ON, with k at W, or with no unsent record in the list, no report is composed (R131, R185). The 19 bytes in
which a record travels (R197), and the encoding of the numbers a reply or a report carries: high byte first, the signed
ones in two's complement (R192). -/
def Obligations.ResultReportTakesTheOldestUnsentRecords : Prop :=
  (∀ s : State, s.stream.state ≠ .on ∨ s.stream.window ≤ s.stream.inFlight ∨ s.queue.list.length ≤ s.stream.inFlight →
      exec .resultReport s = .next s)
  ∧ (∀ r : Record, ∃ flags : Byte,
      recordBytes r = [byteOf (r.seq.toNat / 256), byteOf r.seq.toNat, byteOf (r.pass / 256), byteOf r.pass,
          byteOf r.step, byteOf r.channel, byteOf r.sample,
          byteOf ((match r.function with | none => 0 | some .volt => 16 | some .curr => 32 | some .ohms => 48) + r.range),
          flags]
        ++ signedBytes16 r.count ++ signedBytes32 r.value ++ bytes32 r.time.toNat
      ∧ flags.getLsbD 0 = r.flags.overrange ∧ flags.getLsbD 1 = r.flags.hunt ∧ flags.getLsbD 2 = r.flags.fast
      ∧ flags.getLsbD 3 = r.flags.mean ∧ flags.getLsbD 4 = r.flags.skipped ∧ flags.getLsbD 5 = r.flags.redone
      ∧ flags.getLsbD 6 = r.flags.trip ∧ flags.getLsbD 7 = false)
  ∧ (∀ n : Nat, n < 256 → (byteOf n).toNat = n)
  ∧ (∀ n : Nat, n < 65536 → ∃ b1 b0 : Byte, bytes16 n = [b1, b0] ∧ b1.toNat * 256 + b0.toNat = n)
  ∧ (∀ n : Nat, n < 4294967296 → ∃ b3 b2 b1 b0 : Byte, bytes32 n = [b3, b2, b1, b0]
      ∧ ((b3.toNat * 256 + b2.toNat) * 256 + b1.toNat) * 256 + b0.toNat = n)
  ∧ (∀ i : Int, -32768 ≤ i → i ≤ 32767 → ∃ b1 b0 : Byte, signedBytes16 i = [b1, b0]
      ∧ i = (b1.toNat * 256 + b0.toNat : Nat) - (if 128 ≤ b1.toNat then 65536 else 0))
  ∧ (∀ i : Int, -2147483648 ≤ i → i ≤ 2147483647 → ∃ b3 b2 b1 b0 : Byte, signedBytes32 i = [b3, b2, b1, b0]
      ∧ i = (((b3.toNat * 256 + b2.toNat) * 256 + b1.toNat) * 256 + b0.toNat : Nat)
          - (if 128 ≤ b3.toNat then 4294967296 else 0))
  ∧ signedBytes16 (-2469) = [0xF6, 0x5B] ∧ signedBytes16 2468 = [0x09, 0xA4]
  ∧ ∀ (s : State) (flight taken later : List Queued) (n : Nat), s.pins.resetLow = false →
    s.link.sending = none → s.link.replies = [] → (∀ k : EventKind, (s.events.get k).due = false) →
    s.stream.state = .on → s.stream.inFlight < s.stream.window → s.queue.list = flight ++ taken ++ later →
    flight.length = s.stream.inFlight → taken.length = n → 0 < n →
    n = min 3 (min (s.stream.window - s.stream.inFlight) (taken.length + later.length)) →
      exec .resultReport s = .next { s with
        queue := { s.queue with list := flight ++ taken.map (fun e => { e with sent := true }) ++ later }
        stream := { s.stream with
          inFlight := s.stream.inFlight + n, timer := if s.stream.inFlight = 0 then some 0 else s.stream.timer }
        link := { s.link with sending := some (Frame.wire {
          kind := 0x40, token := 0,
          payload := byteOf n :: taken.flatMap fun e => recordBytes e.record }) } }

/-! ## IDENTIFY, STATUS and RESTART -/

/-- IDENTIFY: DONE followed by the fixed values; a payload is refused with BAD_LENGTH; nothing else changes (R186). -/
def Obligations.IdentifyAnswersTheFixedValues : Prop :=
  ∀ (s : State) (token : Byte) (p : List Byte) (rest : List Frame),
    s.Executes { kind := 0x01, token := token, payload := p } rest →
      (p = [] → exec .identify s = .next (s.answered { kind := 0x01, token := token, payload := p } rest
        [0x00, 0x3A, 0x17, 0x0B, 0x24, 0x02, 24, 64, 128, 8, 9]))
      ∧ (p ≠ [] → exec .identify s = .next (s.answered { kind := 0x01, token := token, payload := p } rest [0x01]))

/-- STATUS: the 28 bytes of the reply, each field at its offset (R187, R200), and nothing changes; a payload is refused
with BAD_LENGTH; the position it reports per scan state (R79), the pending set (R158), and the codes of the scan, rail and
stream states (R192). With the next step or the end of the pass as resume point, the step reported, and the sample 0 after
a skipped step, are the model's choice (log entry 5); so are the zeros stored in IDLE and ARMED and the position stored in
FAULTED (log entry 6). -/
def Obligations.StatusReportsTheState : Prop :=
  (∀ (s : State) (token : Byte) (rest : List Frame),
      s.Executes { kind := 0x02, token := token, payload := [] } rest →
        exec .status s = .next (s.answered { kind := 0x02, token := token, payload := [] } rest
          ([0x00, byteOf s.seq.scan.code] ++ bytes16 s.seq.pass
            ++ [byteOf s.position.1, byteOf s.position.2, byteOf s.rail.state.code, byteOf s.queue.list.length,
                byteOf s.stream.inFlight, if s.queue.staged.isSome then 0x01 else 0x00, byteOf s.stream.state.code,
                byteOf s.stream.window]
            ++ bytes16 (match s.queue.list with | [] => s.queue.nextSeq.toNat | e :: _ => e.record.seq.toNat)
            ++ bytes16 s.queue.nextSeq.toNat ++ bytes16 s.events.pendingSet.toNat
            ++ bytes16 s.events.subscription.toNat
            ++ [if s.limit.line then 0x01 else 0x00, if s.limit.latch then 0x01 else 0x00]
            ++ bytes16 s.link.framingCount ++ bytes16 s.link.checkCount ++ bytes16 s.link.overflowCount)))
  ∧ (∀ (s : State) (token : Byte) (p : List Byte) (rest : List Frame), p ≠ [] →
      s.Executes { kind := 0x02, token := token, payload := p } rest →
        exec .status s = .next (s.answered { kind := 0x02, token := token, payload := p } rest [0x01]))
  ∧ (∀ s : State,
      (s.seq.scan = .idle ∨ s.seq.scan = .armed → s.position = (0, 0))
      ∧ (s.seq.scan = .running ∨ s.seq.scan = .pausing → s.position = (s.seq.step, s.seq.sample))
      ∧ (∀ r, s.seq.scan = .held → s.queue.staged = some r → s.position = (r.step, r.sample))
      ∧ (s.seq.scan = .paused → s.seq.resume = some .toArmed → s.position = (0, 0))
      ∧ (s.seq.scan = .paused → s.seq.resume = some (.within .measure) → s.position = (s.seq.step, s.seq.sample))
      ∧ (s.seq.scan = .paused → s.seq.resume = some (.within .nextSample) → s.position = (s.seq.step, s.seq.sample + 1))
      ∧ (s.seq.scan = .paused → s.seq.resume = some (.within .redoStep) → s.position = (s.seq.step, 1))
      ∧ (s.seq.scan = .paused → s.seq.resume = some (.within .nextStep) ∨ s.seq.resume = some (.within .endPass) →
          s.position = (s.seq.step, s.seq.sample))
      ∧ (s.seq.scan = .faulted → s.position = (s.seq.step, s.seq.sample))
      ∧ (∀ k : EventKind, s.events.pendingSet.getLsbD k.number = (s.events.get k).pending)
      ∧ (∀ n, n = 0 ∨ 10 ≤ n → s.events.pendingSet.getLsbD n = false))
  ∧ ([ScanState.idle, .armed, .running, .pausing, .paused, .held, .faulted].map ScanState.code = [0, 1, 2, 3, 4, 5, 6]
      ∧ [RailState.off, .starting, .ready, .fault].map RailState.code = [0, 1, 2, 3]
      ∧ [StreamState.off, .on, .stalled].map StreamState.code = [0, 1, 2])

/-- RESTART from a scan that is not IDLE and from IDLE: STOP semantics, then the clears of R188, with the settings, the
list, the window, the line mode, the subscription set and the link's own machinery kept (R13, R58, R103, R188, R189). The
phase timer of the open matrix reads 0 by the model's choice (log entry 17). -/
def Obligations.RestartClearsTheWorkAndKeepsTheSettings : Prop :=
  ∀ (s : State) (token : Byte) (p : List Byte) (rest : List Frame),
    s.Executes { kind := 0x03, token := token, payload := p } rest →
      (p ≠ [] → exec .restart s = .next (s.answered { kind := 0x03, token := token, payload := p } rest [0x01]))
      ∧ (p = [] → s.seq.scan ≠ .idle →
        exec .restart s = .next (({ s with
          table := s.table.map fun c => { c with remembered := highestRange c.function, trip := .clear }
          conv := .idle
          matrix := .opened
          rail := match s.rail.state with
            | .ready => { s.rail with holdTimer := some 0 }
            | .starting | .fault => .off
            | .off => s.rail
          ranging := .dropped
          seq := .reset
          queue := .reset
          stream := { s.stream with state := .off, inFlight := 0, timer := none, timeouts := 0 }
          limit := { s.limit with latch := false, line := false }
          events := .cleared s.events.subscription
          link := { s.link with framingCount := 0, checkCount := 0, overflowCount := 0 } } : State).answered
            { kind := 0x03, token := token, payload := p } rest [0x00]))
      ∧ (p = [] → s.seq.scan = .idle →
        exec .restart s = .next (({ s with
          table := s.table.map fun c => { c with remembered := highestRange c.function, trip := .clear }
          seq := { s.seq with pass := 0, step := 0, sample := 0, passesDone := 0, passStart := 0, clockMs := 0,
                              clockTicks := 0 }
          queue := .reset
          stream := { s.stream with state := .off, inFlight := 0, timer := none, timeouts := 0 }
          limit := { s.limit with latch := false, line := false }
          events := .cleared s.events.subscription
          link := { s.link with framingCount := 0, checkCount := 0, overflowCount := 0 } } : State).answered
            { kind := 0x03, token := token, payload := p } rest [0x00]))

/-! ## The channel table -/

/-- A CHANNEL_SET of legal settings, for a channel that the scan has no current step on, replaces all settings of the
channel, enables it, sets its remembered range to the highest and its trip state to CLEAR, and brings the TRIP line up to
date; the other channels and blocks stand, and an absent window's bytes may hold anything (R8, R15, R16, R194). -/
def Obligations.ChannelSetWritesTheWholeRecord : Prop :=
  ∀ (s : State) (token : Byte) (n : Fin 24) (c : ChannelSettings) (unused : List Byte) (rest : List Frame),
    c.Legal → unused.length = 12 →
    s.Executes { kind := 0x10, token := token, payload := c.payload n unused } rest →
    (s.seq.scan = .idle ∨ s.seq.scan = .armed ∨ s.seq.scan = .faulted
      ∨ (s.seq.scan = .paused ∧ s.seq.resume = some .toArmed) ∨ ∀ st ∈ s.currentStep, st.channel ≠ n) →
      ∃ table : Vector Channel 24,
        table = s.table.set n { enabled := true, function := c.function, range := c.range, mode := c.mode,
                                settle := c.settle, window := c.window, remembered := highestRange c.function,
                                trip := .clear }
        ∧ exec .channelSet s = .next (({ s with
            table := table
            limit := { s.limit with line :=
              if s.limit.mode = .follow then table.toList.any (fun d => d.trip = .tripped) else s.limit.latch }
              } : State).answered
                { kind := 0x10, token := token, payload := c.payload n unused } rest [0x00])

/-- The refusals of CHANNEL_SET, stage by stage (R14, R191, R195): the length, the channel, and exactly the field values
that R14 lists. How the numbers of a payload are read: high byte first, the signed ones in two's complement (R192). -/
def Obligations.ChannelSetRefusesWhatIsIllegal : Prop :=
  (∀ (before after : List Byte) (b3 b2 b1 b0 : Byte) (n : Nat),
      n = ((b3.toNat * 256 + b2.toNat) * 256 + b1.toNat) * 256 + b0.toNat →
      field8 (before ++ b3 :: after) before.length = b3.toNat
      ∧ field32 (before ++ [b3, b2, b1, b0] ++ after) before.length = n
      ∧ signedField32 (before ++ [b3, b2, b1, b0] ++ after) before.length
        = (n : Int) - (if 128 ≤ b3.toNat then 4294967296 else 0))
  ∧ ∀ (s : State) (token : Byte) (p : List Byte) (rest : List Frame),
    s.Executes { kind := 0x10, token := token, payload := p } rest →
      (p.length ≠ 18 → exec .channelSet s = .next (s.answered { kind := 0x10, token := token, payload := p } rest [0x01]))
      ∧ (p.length = 18 → 24 ≤ field8 p 0 →
        exec .channelSet s = .next (s.answered { kind := 0x10, token := token, payload := p } rest [0x03]))
      ∧ (p.length = 18 → field8 p 0 < 24 →
        (exec .channelSet s = .next (s.answered { kind := 0x10, token := token, payload := p } rest [0x02])
          ↔ field8 p 1 = 0 ∨ 3 < field8 p 1
            ∨ (field8 p 2 ≠ 0x80
                ∧ (if field8 p 1 = 1 then 3 else if field8 p 1 = 2 then 1 else 4) < field8 p 2)
            ∨ 1 < field8 p 3 ∨ 250 < field8 p 4 ∨ 1 < field8 p 5
            ∨ (field8 p 5 = 1
                ∧ (signedField32 p 10 < signedField32 p 6 ∨ 16000000 < field32 p 14
                  ∨ signedField32 p 10 - signedField32 p 6 < 2 * (field32 p 14 : Int)))))

/-- A CHANNEL_SET for the channel of the current step, in a scan within a pass, with the whole next state in each case. In
RUNNING the conversion or connection is abandoned, the sample state and the accumulator go, the redo mark is set, and the
step starts again at once on the new settings with a full break; in PAUSING the scan is PAUSED with the step's start as
resume point (R26, R49, R71, R101). In HELD and in PAUSED a step with records still to produce is to be started again, and
a step that is complete is left alone (R70, R102). By the model's choice the phase timer of the open matrix (log entry 17)
and the change count of a discarded sample (log entry 18) read 0; that no continuation is held in PAUSED is its reading
(log entry 19, DEDUCED). -/
def Obligations.ChannelSetInFlightStartsTheStepAgain : Prop :=
  ∀ (s : State) (token : Byte) (n : Fin 24) (c : ChannelSettings) (unused : List Byte) (rest : List Frame) (st : Step)
      (table : Vector Channel 24) (limit : LimitMonitor) (range : Nat),
    c.Legal → unused.length = 12 →
    s.Executes { kind := 0x10, token := token, payload := c.payload n unused } rest →
    s.currentStep = some st → st.channel = n →
    table = s.table.set n { enabled := true, function := c.function, range := c.range, mode := c.mode,
                            settle := c.settle, window := c.window, remembered := highestRange c.function,
                            trip := .clear } →
    limit = { s.limit with line :=
      if s.limit.mode = .follow then table.toList.any (fun d => d.trip = .tripped) else s.limit.latch } →
    range = (match c.range with | .fixed r => r | .auto => highestRange c.function) →
      (s.seq.scan = .running → s.rail.state = .ready →
        exec .channelSet s = .next (({ s with
          table := table
          limit := limit
          conv := .idle
          matrix := { phase := .breaking, channel := none, selection := none, excitation := false, timer := 0,
                      target := some { channel := n, function := c.function, settle := c.settle, range := range } }
          ranging := { sampleRange := some range, changes := 0, lock := none }
          seq := { s.seq with sample := 1, acc := .empty, redo := true, cont := some .measure } } : State).answered
            { kind := 0x10, token := token, payload := c.payload n unused } rest [0x00]))
      ∧ (s.seq.scan = .pausing →
        exec .channelSet s = .next (({ s with
          table := table
          limit := limit
          conv := .idle
          matrix := .opened
          ranging := .dropped
          seq := { s.seq with scan := .paused, sample := 1, acc := .empty, redo := true, cont := none,
                              resume := some (.within .redoStep) } } : State).answered
            { kind := 0x10, token := token, payload := c.payload n unused } rest [0x00]))
      ∧ (s.seq.scan = .held →
        (s.seq.cont = some .measure ∨ s.seq.cont = some .nextSample ∨ s.seq.cont = some .redoStep →
          exec .channelSet s = .next (({ s with
            table := table
            limit := limit
            ranging := .dropped
            seq := { s.seq with acc := .empty, redo := true, cont := some .redoStep } } : State).answered
              { kind := 0x10, token := token, payload := c.payload n unused } rest [0x00]))
        ∧ (s.seq.cont = some .nextStep ∨ s.seq.cont = some .endPass →
          exec .channelSet s = .next (({ s with table := table, limit := limit } : State).answered
            { kind := 0x10, token := token, payload := c.payload n unused } rest [0x00])))
      ∧ (s.seq.scan = .paused →
        (s.seq.resume = some (.within .measure) ∨ s.seq.resume = some (.within .nextSample)
            ∨ s.seq.resume = some (.within .redoStep) →
          exec .channelSet s = .next (({ s with
            table := table
            limit := limit
            ranging := .dropped
            seq := { s.seq with acc := .empty, redo := true, resume := some (.within .redoStep) } } : State).answered
              { kind := 0x10, token := token, payload := c.payload n unused } rest [0x00]))
        ∧ (s.seq.resume = some (.within .nextStep) ∨ s.seq.resume = some (.within .endPass) →
          exec .channelSet s = .next (({ s with table := table, limit := limit } : State).answered
            { kind := 0x10, token := token, payload := c.payload n unused } rest [0x00])))

/-- CHANNEL_OFF disables the named channel and keeps the rest of its record, and the trip state with it; its refusals are
the length and the channel (R18). On the current step's channel: in RUNNING the step starts again as a skipped one, whose
SKIPPED record carries REDONE; in PAUSING the scan is PAUSED at the step's start (R87, R101); in HELD and in PAUSED a step
with records still to produce is to be started again, and a step that is complete is left alone (R102). By the model's
choice the phase timer of the open matrix (log entry 17) and the change count of a discarded sample (log entry 18) read 0;
that no continuation is held in PAUSED is its reading (log entry 19, DEDUCED). -/
def Obligations.ChannelOffDisablesTheChannelOnly : Prop :=
  ∀ (s : State) (token : Byte) (p : List Byte) (rest : List Frame),
    s.Executes { kind := 0x12, token := token, payload := p } rest →
      (p.length ≠ 1 → exec .channelOff s = .next (s.answered { kind := 0x12, token := token, payload := p } rest [0x01]))
      ∧ (∀ b, p = [b] → 24 ≤ b.toNat →
        exec .channelOff s = .next (s.answered { kind := 0x12, token := token, payload := p } rest [0x03]))
      ∧ (∀ (n : Fin 24) (table : Vector Channel 24), p = [byteOf n] →
        table = s.table.set n { s.table[n] with enabled := false } →
        (s.seq.scan = .idle ∨ s.seq.scan = .armed ∨ s.seq.scan = .faulted
          ∨ (s.seq.scan = .paused ∧ s.seq.resume = some .toArmed) ∨ (∀ st ∈ s.currentStep, st.channel ≠ n) →
          exec .channelOff s = .next ((s.withTable table).answered { kind := 0x12, token := token, payload := p } rest
            [0x00]))
        ∧ (∀ (st : Step) (u : State), s.currentStep = some st → st.channel = n → s.seq.scan = .running →
          u = { s with table := table, conv := .idle, matrix := .opened, ranging := .dropped,
                       seq := { s.seq with sample := 1, acc := .empty, redo := true, cont := some .redoStep } } →
          exec .channelOff s = .next ((u.takeContinuation .redoStep).answered
            { kind := 0x12, token := token, payload := p } rest [0x00])
          ∧ (s.queue.list.length < 128 →
            u.takeContinuation .redoStep = ({ u with
              seq := { u.seq with sample := 0, redo := false }
              queue := { s.queue with
                nextSeq := s.queue.nextSeq + 1
                list := s.queue.list ++ [{ sent := false, record := {
                  seq := s.queue.nextSeq, pass := s.seq.pass, step := s.seq.step, channel := n, sample := 0,
                  function := none, range := 0, count := 0, value := 0, time := s.seq.clockMs
                  flags := { overrange := false, hunt := false, fast := false, mean := false, skipped := true,
                             redone := true, trip := false } } }] }
              events := if st.mark then s.events.raise .mark (BitVec.ofNat 16 s.seq.step) else s.events } :
                State).takeContinuation (if s.seq.step + 1 < s.list.length then .nextStep else .endPass)))
        ∧ (∀ st : Step, s.currentStep = some st → st.channel = n → s.seq.scan = .pausing →
          exec .channelOff s = .next (({ s with
            table := table
            conv := .idle
            matrix := .opened
            ranging := .dropped
            seq := { s.seq with scan := .paused, sample := 1, acc := .empty, redo := true, cont := none,
                                resume := some (.within .redoStep) } } : State).answered
              { kind := 0x12, token := token, payload := p } rest [0x00]))
        ∧ (∀ st : Step, s.currentStep = some st → st.channel = n → s.seq.scan = .held →
          (s.seq.cont = some .measure ∨ s.seq.cont = some .nextSample ∨ s.seq.cont = some .redoStep →
            exec .channelOff s = .next (({ s with
              table := table
              ranging := .dropped
              seq := { s.seq with acc := .empty, redo := true, cont := some .redoStep } } : State).answered
                { kind := 0x12, token := token, payload := p } rest [0x00]))
          ∧ (s.seq.cont = some .nextStep ∨ s.seq.cont = some .endPass →
            exec .channelOff s = .next ((s.withTable table).answered { kind := 0x12, token := token, payload := p } rest
              [0x00])))
        ∧ (∀ st : Step, s.currentStep = some st → st.channel = n → s.seq.scan = .paused →
          (s.seq.resume = some (.within .measure) ∨ s.seq.resume = some (.within .nextSample)
              ∨ s.seq.resume = some (.within .redoStep) →
            exec .channelOff s = .next (({ s with
              table := table
              ranging := .dropped
              seq := { s.seq with acc := .empty, redo := true, resume := some (.within .redoStep) } } : State).answered
                { kind := 0x12, token := token, payload := p } rest [0x00]))
          ∧ (s.seq.resume = some (.within .nextStep) ∨ s.seq.resume = some (.within .endPass) →
            exec .channelOff s = .next ((s.withTable table).answered { kind := 0x12, token := token, payload := p } rest
              [0x00]))))

/-- CHANNEL_GET: the 22 bytes of the reply, each field at its offset, an absent window as zeros; nothing changes; its
refusals are the length and the channel (R20, R194). -/
def Obligations.ChannelGetReportsTheRecord : Prop :=
  ∀ (s : State) (token : Byte) (p : List Byte) (rest : List Frame),
    s.Executes { kind := 0x11, token := token, payload := p } rest →
      (p.length ≠ 1 → exec .channelGet s = .next (s.answered { kind := 0x11, token := token, payload := p } rest [0x01]))
      ∧ (∀ b, p = [b] → 24 ≤ b.toNat →
        exec .channelGet s = .next (s.answered { kind := 0x11, token := token, payload := p } rest [0x03]))
      ∧ (∀ n : Fin 24, p = [byteOf n] →
        exec .channelGet s = .next (s.answered { kind := 0x11, token := token, payload := p } rest
          ([0x00, byteOf n, if s.table[n].enabled then 0x01 else 0x00,
            (match s.table[n].function with | .volt => 0x01 | .curr => 0x02 | .ohms => 0x03),
            (match s.table[n].range with | .fixed r => byteOf r | .auto => 0x80),
            (if s.table[n].mode = .fast then 0x01 else 0x00), byteOf s.table[n].settle]
            ++ (match s.table[n].window with
                | none => List.replicate 13 0x00
                | some w => 0x01 :: (signedBytes32 w.low ++ signedBytes32 w.high ++ bytes32 w.hysteresis))
            ++ [byteOf s.table[n].remembered, if s.table[n].trip = .tripped then 0x01 else 0x00])))

/-! ## The scan list and the scan settings -/

/-- LIST_CLEAR: the length and then the scan state are checked; in IDLE it empties the list and replies DONE, in any
other state it is refused with BUSY; every other block is left as it was (R74). -/
def Obligations.ListClearEmptiesTheListInIdle : Prop :=
  ∀ (s : State) (token : Byte) (p : List Byte) (rest : List Frame),
    s.Executes { kind := 0x18, token := token, payload := p } rest →
      (p ≠ [] → exec .listClear s = .next (s.answered { kind := 0x18, token := token, payload := p } rest [0x01]))
      ∧ (p = [] → s.seq.scan ≠ .idle →
        exec .listClear s = .next (s.answered { kind := 0x18, token := token, payload := p } rest [0x04]))
      ∧ (p = [] → s.seq.scan = .idle →
        exec .listClear s = .next ((s.withList []).answered { kind := 0x18, token := token, payload := p } rest [0x00]))

/-- A LIST_APPEND of 1 to 16 legal steps, written as R196 lays a step out, appends them in order when the scan is IDLE
and they fit, and is otherwise refused whole with BUSY or LIST_FULL; before that come the refusals of a length that is no
1 to 16 steps, of any channel above 23, and of any sample count or option that is not legal, in this order (R75). -/
def Obligations.ListAppendAddsTheStepsInOrder : Prop :=
  (∀ (s : State) (token : Byte) (steps : List Step) (rest : List Frame),
    1 ≤ steps.length → steps.length ≤ 16 → (∀ st ∈ steps, st.Legal) →
    s.Executes { kind := 0x19, token := token, payload := steps.flatMap stepBytes } rest →
      (s.seq.scan ≠ .idle → exec .listAppend s
        = .next (s.answered { kind := 0x19, token := token, payload := steps.flatMap stepBytes } rest [0x04]))
      ∧ (s.seq.scan = .idle → 64 < s.list.length + steps.length → exec .listAppend s
        = .next (s.answered { kind := 0x19, token := token, payload := steps.flatMap stepBytes } rest [0x05]))
      ∧ (s.seq.scan = .idle → s.list.length + steps.length ≤ 64 → exec .listAppend s
        = .next ((s.withList (s.list ++ steps)).answered
            { kind := 0x19, token := token, payload := steps.flatMap stepBytes } rest [0x00])))
  ∧ (∀ (s : State) (token : Byte) (p : List Byte) (rest : List Frame),
    s.Executes { kind := 0x19, token := token, payload := p } rest →
      (p.length % 2 = 1 ∨ p.length = 0 ∨ 32 < p.length →
        exec .listAppend s = .next (s.answered { kind := 0x19, token := token, payload := p } rest [0x01]))
      ∧ (∀ raw : List (Byte × Byte), p = raw.flatMap (fun e => [e.1, e.2]) → 1 ≤ raw.length → raw.length ≤ 16 →
        ((∃ e ∈ raw, 24 ≤ e.1.toNat) →
          exec .listAppend s = .next (s.answered { kind := 0x19, token := token, payload := p } rest [0x03]))
        ∧ ((∀ e ∈ raw, e.1.toNat < 24) →
          (∃ e ∈ raw, e.2.toNat % 32 = 0 ∨ 16 < e.2.toNat % 32 ∨ 128 ≤ e.2.toNat) →
          exec .listAppend s = .next (s.answered { kind := 0x19, token := token, payload := p } rest [0x02]))))

/-- LIST_READ: the list's length and the steps from the start index onward, each behind its index; a count of 0 or above
16 and a start at or beyond the list's length are refused; nothing changes (R76). The two bytes in which a step travels
(R196). -/
def Obligations.ListReadReturnsTheSteps : Prop :=
  (∀ st : Step, st.Legal → ∃ options : Byte,
      stepBytes st = [byteOf st.channel, options] ∧ options.toNat % 32 = st.samples
        ∧ options.getLsbD 5 = st.mean ∧ options.getLsbD 6 = st.mark ∧ options.getLsbD 7 = false)
  ∧ ∀ (s : State) (token : Byte) (p : List Byte) (rest : List Frame),
    s.Executes { kind := 0x1A, token := token, payload := p } rest →
      (p.length ≠ 2 → exec .listRead s = .next (s.answered { kind := 0x1A, token := token, payload := p } rest [0x01]))
      ∧ (∀ first count : Byte, p = [first, count] →
        (count.toNat = 0 ∨ 16 < count.toNat ∨ s.list.length ≤ first.toNat →
          exec .listRead s = .next (s.answered { kind := 0x1A, token := token, payload := p } rest [0x02]))
        ∧ (1 ≤ count.toNat → count.toNat ≤ 16 → first.toNat < s.list.length →
          exec .listRead s = .next (s.answered { kind := 0x1A, token := token, payload := p } rest
            ([0x00, byteOf s.list.length]
              ++ (((s.list.drop first.toNat).take count.toNat).zipIdx first.toNat).flatMap
                  fun e => byteOf e.2 :: stepBytes e.1))))

/-- SCAN_SET in IDLE writes the settings it carries, the interval only with pace TIMED; in any other state it is BUSY;
a wrong length and then illegal values are refused before the state is looked at (R77). -/
def Obligations.ScanSetWritesTheSettings : Prop :=
  (∀ (s : State) (token : Byte) (p : List Byte) (rest : List Frame), p.length ≠ 8 →
    s.Executes { kind := 0x20, token := token, payload := p } rest →
      exec .scanSet s = .next (s.answered { kind := 0x20, token := token, payload := p } rest [0x01]))
  ∧ ∀ (s : State) (token pace i3 i2 i1 i0 n1 n0 policy : Byte) (rest : List Frame),
    s.Executes { kind := 0x20, token := token, payload := [pace, i3, i2, i1, i0, n1, n0, policy] } rest →
    ∀ interval passes : Nat, interval = ((i3.toNat * 256 + i2.toNat) * 256 + i1.toNat) * 256 + i0.toNat →
    passes = n1.toNat * 256 + n0.toNat →
      (2 < pace.toNat ∨ 2 < policy.toNat ∨ (pace = 1 ∧ (interval < 10 ∨ 600000 < interval)) →
        exec .scanSet s = .next (s.answered
          { kind := 0x20, token := token, payload := [pace, i3, i2, i1, i0, n1, n0, policy] } rest [0x02]))
      ∧ (pace.toNat ≤ 2 → policy.toNat ≤ 2 → (pace = 1 → 10 ≤ interval ∧ interval ≤ 600000) →
        (s.seq.scan ≠ .idle → exec .scanSet s = .next (s.answered
          { kind := 0x20, token := token, payload := [pace, i3, i2, i1, i0, n1, n0, policy] } rest [0x04]))
        ∧ (s.seq.scan = .idle → exec .scanSet s = .next ((s.withSettings {
            pace := if pace = 0 then .free else if pace = 1 then .timed else .triggered
            interval := if pace = 1 then interval else s.settings.interval
            passes := passes
            policy := if policy = 0 then .stall else if policy = 1 then .dropOldest else .dropNewest }).answered
          { kind := 0x20, token := token, payload := [pace, i3, i2, i1, i0, n1, n0, policy] } rest [0x00])))

/-! ## Scan control -/

/-- START: the length, BUSY unless IDLE, LIST_EMPTY; accepted, it zeroes the clock, the position and the passes completed,
clears the latch, the pace-due mark and the accumulator, starts the rail and enters ARMED; the queue, the table and the
events are not touched (R51, R80, R81). -/
def Obligations.StartArmsTheScan : Prop :=
  ∀ (s : State) (token : Byte) (p : List Byte) (rest : List Frame),
    s.Executes { kind := 0x21, token := token, payload := p } rest →
      (p ≠ [] → exec .start s = .next (s.answered { kind := 0x21, token := token, payload := p } rest [0x01]))
      ∧ (p = [] → s.seq.scan ≠ .idle →
        exec .start s = .next (s.answered { kind := 0x21, token := token, payload := p } rest [0x04]))
      ∧ (p = [] → s.seq.scan = .idle → s.list = [] →
        exec .start s = .next (s.answered { kind := 0x21, token := token, payload := p } rest [0x06]))
      ∧ (p = [] → s.seq.scan = .idle → s.list ≠ [] →
        exec .start s = .next (({ s with
          seq := { s.seq with scan := .armed, pass := 0, step := 0, sample := 0, passesDone := 0, acc := .empty,
                              paceDue := false, latch := false, clockMs := 0, clockTicks := 0 }
          rail := match s.rail.state with
            | .off => { state := .starting, startTimer := some 0, holdTimer := none, cause := none }
            | .ready => { s.rail with holdTimer := none }
            | .starting | .fault => s.rail } : State).answered
              { kind := 0x21, token := token, payload := p } rest [0x00]))

/-- STOP: in IDLE DONE and no change; in any other state one event cuts the scan off, discards a staged record with
QUEUE_LOSS, drops the sample, enters IDLE and releases the rail (R37, R46, R54, R99, R117). That step and sample are
stored as 0 on entering IDLE is the model's reading (log entry 6, DEDUCED); the phase timer of the open matrix (log entry
17) and the change count of the dropped sample (log entry 18) read 0 by its choice. -/
def Obligations.StopCutsTheScanOff : Prop :=
  ∀ (s : State) (token : Byte) (p : List Byte) (rest : List Frame),
    s.Executes { kind := 0x22, token := token, payload := p } rest →
      (p ≠ [] → exec .stop s = .next (s.answered { kind := 0x22, token := token, payload := p } rest [0x01]))
      ∧ (p = [] → s.seq.scan = .idle →
        exec .stop s = .next (s.answered { kind := 0x22, token := token, payload := p } rest [0x00]))
      ∧ (p = [] → s.seq.scan ≠ .idle →
        exec .stop s = .next (({ s with
          conv := .idle
          matrix := .opened
          ranging := .dropped
          queue := { s.queue with staged := none }
          events := match s.queue.staged with
            | some r => s.events.raise .queueLoss r.seq
            | none => s.events
          rail := match s.rail.state with
            | .ready => { s.rail with holdTimer := some 0 }
            | .starting | .fault => .off
            | .off => s.rail
          seq := { s.seq with scan := .idle, step := 0, sample := 0, cont := none, resume := none, acc := .empty,
                              redo := false, paceTimer := none, paceDue := false, latch := false } } : State).answered
            { kind := 0x22, token := token, payload := p } rest [0x00]))

/-- PAUSE by scan state: the table of R95. The phase timer of the open matrix reads 0 by the model's choice (log entry 17),
and that a PAUSED scan holds its resume point and no continuation beside it is its reading (log entry 19, DEDUCED). -/
def Obligations.PauseActsByScanState : Prop :=
  ∀ (s : State) (token : Byte) (p : List Byte) (rest : List Frame),
    s.Executes { kind := 0x23, token := token, payload := p } rest →
      (p ≠ [] → exec .pause s = .next (s.answered { kind := 0x23, token := token, payload := p } rest [0x01]))
      ∧ (p = [] → s.seq.scan = .running → s.conv.phase ≠ .idle →
        exec .pause s = .next ((s.withSeq { s.seq with scan := .pausing }).answered
          { kind := 0x23, token := token, payload := p } rest [0x00]))
      ∧ (p = [] → s.seq.scan = .running → s.conv.phase = .idle →
        exec .pause s = .next (((s.withMatrix .opened).withSeq
          { s.seq with scan := .paused, cont := none, resume := some (.within .measure) }).answered
          { kind := 0x23, token := token, payload := p } rest [0x00]))
      ∧ (p = [] → s.seq.scan = .armed →
        exec .pause s = .next ((s.withSeq { s.seq with scan := .paused, resume := some .toArmed }).answered
          { kind := 0x23, token := token, payload := p } rest [0x00]))
      ∧ (∀ c, p = [] → s.seq.scan = .held → s.seq.cont = some c →
        exec .pause s = .next (((s.withMatrix .opened).withSeq
          { s.seq with scan := .paused, cont := none, resume := some (.within c) }).answered
          { kind := 0x23, token := token, payload := p } rest [0x00]))
      ∧ (p = [] → s.seq.scan = .pausing ∨ s.seq.scan = .paused →
        exec .pause s = .next (s.answered { kind := 0x23, token := token, payload := p } rest [0x00]))
      ∧ (p = [] → s.seq.scan = .idle ∨ s.seq.scan = .faulted →
        exec .pause s = .next (s.answered { kind := 0x23, token := token, payload := p } rest [0x04]))

/-- RESUME by scan state: the table of R97. With the slot empty and a resume point within the pass it is taken in RUNNING
(what taking each one does is ContinuationsAreTaken): the current sample is taken up again on its saved range (R70), the
next sample, the start of the step again and the next step break to the channel of their step on the range of R60, and the
end of the pass ends it (R87, R92). -/
def Obligations.ResumeActsByScanState : Prop :=
  ∀ (s : State) (token : Byte) (p : List Byte) (rest : List Frame),
    s.Executes { kind := 0x24, token := token, payload := p } rest →
      (p ≠ [] → exec .resume s = .next (s.answered { kind := 0x24, token := token, payload := p } rest [0x01]))
      ∧ (p = [] → s.seq.scan = .pausing →
        exec .resume s = .next ((s.withSeq { s.seq with scan := .running }).answered
          { kind := 0x24, token := token, payload := p } rest [0x00]))
      ∧ (∀ c r, p = [] → s.seq.scan = .paused → s.queue.staged = some r → s.seq.resume = some (.within c) →
        exec .resume s = .next ((s.withSeq { s.seq with scan := .held, cont := some c, resume := none }).answered
          { kind := 0x24, token := token, payload := p } rest [0x00]))
      ∧ (p = [] → s.seq.scan = .paused → s.queue.staged = none → s.seq.resume = some .toArmed →
        exec .resume s = .next ((s.withSeq { s.seq with scan := .armed, resume := none }).answered
          { kind := 0x24, token := token, payload := p } rest [0x00]))
      ∧ (∀ st range, p = [] → s.seq.scan = .paused → s.queue.staged = none → s.seq.resume = some (.within .measure) →
        s.currentStep = some st → s.ranging.sampleRange = some range → s.matrix.phase = .opened →
        s.rail.state = .ready →
        exec .resume s = .next (({ s with
          seq := { s.seq with scan := .running, cont := some .measure, resume := none }
          matrix := { phase := .breaking, channel := none, selection := none, excitation := false, timer := 0,
                      target := some { channel := st.channel, function := s.table[st.channel].function,
                                       range := range, settle := s.table[st.channel].settle } } } : State).answered
          { kind := 0x24, token := token, payload := p } rest [0x00]))
      ∧ (∀ c, p = [] → s.seq.scan = .paused → s.queue.staged = none → s.seq.resume = some (.within c) →
        exec .resume s = .next (((s.withSeq { s.seq with scan := .running, resume := none }).takeContinuation c).answered
          { kind := 0x24, token := token, payload := p } rest [0x00]))
      ∧ (∀ c st step sample range, p = [] → s.seq.scan = .paused → s.queue.staged = none →
        s.seq.resume = some (.within c) →
        (c = .nextSample ∧ step = s.seq.step ∧ sample = s.seq.sample + 1
          ∨ c = .redoStep ∧ step = s.seq.step ∧ sample = 1 ∧ s.table[st.channel].enabled = true
          ∨ c = .nextStep ∧ step = s.seq.step + 1 ∧ sample = 1 ∧ s.table[st.channel].enabled = true) →
        s.list[step]? = some st → s.matrix.phase = .opened → s.rail.state = .ready →
        range = (match s.table[st.channel].range with
          | .fixed r => r
          | .auto => if st.mean then s.ranging.lock.getD s.table[st.channel].remembered
              else s.table[st.channel].remembered) →
        exec .resume s = .next (({ s with
          seq := { s.seq with scan := .running, step := step, sample := sample, cont := some .measure, resume := none }
          ranging := { sampleRange := some range, changes := 0, lock := s.ranging.lock }
          matrix := s.breakingTo st range } : State).answered { kind := 0x24, token := token, payload := p } rest [0x00]))
      ∧ (p = [] → s.seq.scan = .running →
        exec .resume s = .next (s.answered { kind := 0x24, token := token, payload := p } rest [0x00]))
      ∧ (p = [] → s.seq.scan = .idle ∨ s.seq.scan = .armed ∨ s.seq.scan = .held ∨ s.seq.scan = .faulted →
        exec .resume s = .next (s.answered { kind := 0x24, token := token, payload := p } rest [0x04]))

/-- A TRIG edge and a TRIGGER request: nothing in IDLE; otherwise the latch is set, or, when it is set already, the start
is lost and PACE_OVERRUN raised with the pass number (R85). -/
def Obligations.TriggersReachTheLatch : Prop :=
  (∀ s : State, s.pins.resetLow = false →
    (s.seq.scan = .idle → exec .trigEdge s = .next s)
    ∧ (s.seq.scan ≠ .idle → s.seq.latch = false → exec .trigEdge s = .next (s.withSeq { s.seq with latch := true }))
    ∧ (s.seq.scan ≠ .idle → s.seq.latch = true →
      exec .trigEdge s = .next (s.raise .paceOverrun (BitVec.ofNat 16 s.seq.pass))))
  ∧ (∀ (s : State) (token : Byte) (p : List Byte) (rest : List Frame),
    s.Executes { kind := 0x25, token := token, payload := p } rest →
      (p ≠ [] → exec .trigger s = .next (s.answered { kind := 0x25, token := token, payload := p } rest [0x01]))
      ∧ (p = [] → s.seq.scan = .idle →
        exec .trigger s = .next (s.answered { kind := 0x25, token := token, payload := p } rest [0x00]))
      ∧ (p = [] → s.seq.scan ≠ .idle → s.seq.latch = false →
        exec .trigger s = .next ((s.withSeq { s.seq with latch := true }).answered
          { kind := 0x25, token := token, payload := p } rest [0x00]))
      ∧ (p = [] → s.seq.scan ≠ .idle → s.seq.latch = true →
        exec .trigger s = .next ((s.raise .paceOverrun (BitVec.ofNat 16 s.seq.pass)).answered
          { kind := 0x25, token := token, payload := p } rest [0x00])))

/-! ## Records, the result queue and the stream -/

/-- Admission of a record (R112 to R115): room, STALL, DROP_NEWEST, and DROP_OLDEST, which removes the first record that
does not carry the sent mark. -/
def Obligations.AdmissionFollowsThePolicy : Prop :=
  ∀ (s : State) (r : Record),
    (s.queue.list.length < 128 →
      s.admitRecord r = (.goOn, s.withQueue { s.queue with list := s.queue.list ++ [{ record := r, sent := false }] }))
    ∧ (128 ≤ s.queue.list.length → s.settings.policy = .stall →
      s.admitRecord r = (.hold, s.withQueue { s.queue with staged := some r }))
    ∧ (128 ≤ s.queue.list.length → s.settings.policy = .dropNewest → s.admitRecord r = (.goOn, s.raise .queueLoss r.seq))
    ∧ (∀ marked lost fresh, 128 ≤ s.queue.list.length → s.settings.policy = .dropOldest →
      s.queue.list = marked ++ lost :: fresh → (∀ e ∈ marked, e.sent = true) → lost.sent = false →
      s.admitRecord r = (.goOn, (s.withQueue { s.queue with
        list := marked ++ fresh ++ [{ record := r, sent := false }] }).raise .queueLoss lost.record.seq))

/-- The production of a record keeps the list in the order of production: sequence numbers strictly increase along it and
a staged record's follows them all (R108, R110), as long as the numbers have not come round to the oldest one still in
the list (log entry 15). So does every step of the part, which produces at most one record for each step of the list. -/
def Obligations.ProductionKeepsSequenceOrder : Prop :=
  (∀ (base : Word16) (s : State) (draft : Record), SeqLaw base s.queue → s.queue.staged = none →
    seqDistance base s.queue.nextSeq < 65535 → SeqLaw base (s.produce draft).2.queue
      ∧ (s.produce draft).2.queue.nextSeq = s.queue.nextSeq + 1)
  ∧ (∀ (base : Word16) (s t : State), Lawful s → SeqLaw base s.queue → seqDistance base s.queue.nextSeq + 64 < 65536 →
    step s = .next t → SeqLaw base t.queue)

/-- FETCH (R120): its refusals; accepted, the oldest min(n, depth) records leave the list and stand in the reply, and a
staged record joins the list; a HELD scan then takes its continuation, whichever it is (R94, R116; what that does is
ContinuationsAreTaken), with the end of an unlimited scan's pass written out (R92). That step and sample are stored as 0
on entering ARMED (log entry 6, DEDUCED) and that no continuation is held there (log entry 19, DEDUCED) is the model's
reading, and the phase timer of the open matrix reads 0 by its choice (log entry 17). -/
def Obligations.FetchRemovesTheOldestRecords : Prop :=
  ∀ (s : State) (token : Byte) (p : List Byte) (rest : List Frame),
    s.Executes { kind := 0x28, token := token, payload := p } rest →
      (p.length ≠ 1 → exec .fetch s = .next (s.answered { kind := 0x28, token := token, payload := p } rest [0x01]))
      ∧ (∀ n : Byte, p = [n] → n.toNat = 0 ∨ 3 < n.toNat →
        exec .fetch s = .next (s.answered { kind := 0x28, token := token, payload := p } rest [0x02]))
      ∧ (∀ n : Byte, p = [n] → 1 ≤ n.toNat → n.toNat ≤ 3 → s.stream.state ≠ .off →
        exec .fetch s = .next (s.answered { kind := 0x28, token := token, payload := p } rest [0x07]))
      ∧ (∀ n : Byte, p = [n] → 1 ≤ n.toNat → n.toNat ≤ 3 → s.stream.state = .off → s.queue.staged = none →
        exec .fetch s = .next ((s.withQueue { s.queue with list := s.queue.list.drop n.toNat }).answered
          { kind := 0x28, token := token, payload := p } rest
          (0x00 :: byteOf (min n.toNat s.queue.list.length)
            :: (s.queue.list.take n.toNat).flatMap fun e => recordBytes e.record)))
      ∧ (∀ (n : Byte) (r : Record), p = [n] → 1 ≤ n.toNat → n.toNat ≤ 3 → s.stream.state = .off →
        s.queue.staged = some r → s.queue.list ≠ [] → s.seq.scan ≠ .held →
        exec .fetch s = .next ((s.withQueue { s.queue with
            list := s.queue.list.drop n.toNat ++ [{ record := r, sent := false }], staged := none }).answered
          { kind := 0x28, token := token, payload := p } rest
          (0x00 :: byteOf (min n.toNat s.queue.list.length)
            :: (s.queue.list.take n.toNat).flatMap fun e => recordBytes e.record)))
      ∧ (∀ (n : Byte) (r : Record), p = [n] → 1 ≤ n.toNat → n.toNat ≤ 3 → s.stream.state = .off →
        s.queue.staged = some r → s.queue.list ≠ [] → s.seq.scan = .held → s.seq.cont = some .endPass →
        s.settings.passes = 0 →
        exec .fetch s = .next (({ s with
          queue := { s.queue with
            list := s.queue.list.drop n.toNat ++ [{ record := r, sent := false }], staged := none }
          matrix := .opened
          seq := { s.seq with scan := .armed, step := 0, sample := 0, cont := none, resume := none,
                              passesDone := min (s.seq.passesDone + 1) 65535 }
          events := s.events.raise .passDone (BitVec.ofNat 16 s.seq.pass) } : State).answered
            { kind := 0x28, token := token, payload := p } rest
            (0x00 :: byteOf (min n.toNat s.queue.list.length)
              :: (s.queue.list.take n.toNat).flatMap fun e => recordBytes e.record)))
      ∧ (∀ (n : Byte) (r : Record) (next : Continuation), p = [n] → 1 ≤ n.toNat → n.toNat ≤ 3 →
        s.stream.state = .off → s.queue.staged = some r → s.queue.list ≠ [] → s.seq.scan = .held →
        s.seq.cont = some next →
        exec .fetch s = .next ((({ s with
          queue := { s.queue with
            list := s.queue.list.drop n.toNat ++ [{ record := r, sent := false }], staged := none }
          seq := { s.seq with scan := .running } } : State).takeContinuation next).answered
            { kind := 0x28, token := token, payload := p } rest
            (0x00 :: byteOf (min n.toNat s.queue.list.length)
              :: (s.queue.list.take n.toNat).flatMap fun e => recordBytes e.record)))

/-- STREAM ON and STREAM OFF make every record fresh, stop the timer, clear k and the timeout count, and set the state;
only ON sets the window; an illegal STREAM is refused (R127 to R129). Which of the two rows answers a refused STREAM is
the model's choice (log entry 4). -/
def Obligations.StreamRequestsMakeEveryRecordFresh : Prop :=
  ∀ (s : State) (token : Byte) (p : List Byte) (rest : List Frame),
    s.Executes { kind := 0x29, token := token, payload := p } rest →
      (∀ w : Byte, p = [0x01, w] → 1 ≤ w.toNat → w.toNat ≤ 8 →
        exec .streamOn s = .next (({ s with
          queue := { s.queue with list := s.queue.list.map fun e => { e with sent := false } }
          stream := { state := .on, window := w.toNat, inFlight := 0, timer := none, timeouts := 0 } } : State).answered
            { kind := 0x29, token := token, payload := p } rest [0x00]))
      ∧ (∀ w : Byte, p = [0x00, w] →
        exec .streamOff s = .next (({ s with
          queue := { s.queue with list := s.queue.list.map fun e => { e with sent := false } }
          stream := { s.stream with state := .off, inFlight := 0, timer := none, timeouts := 0 } } : State).answered
            { kind := 0x29, token := token, payload := p } rest [0x00]))
      ∧ (∀ w : Byte, p = [0x01, w] → w.toNat = 0 ∨ 8 < w.toNat →
        exec .streamOn s = .next (s.answered { kind := 0x29, token := token, payload := p } rest [0x02]))
      ∧ (∀ mode w : Byte, p = [mode, w] → 1 < mode.toNat →
        exec .streamOn s = .next (s.answered { kind := 0x29, token := token, payload := p } rest [0x02])
        ∧ exec .streamOff s = .next (s.answered { kind := 0x29, token := token, payload := p } rest [0x02]))
      ∧ (p.length ≠ 2 →
        exec .streamOn s = .next (s.answered { kind := 0x29, token := token, payload := p } rest [0x01])
        ∧ exec .streamOff s = .next (s.answered { kind := 0x29, token := token, payload := p } rest [0x01]))

/-- An ACK inside the acknowledgement range (R137): the marked records up to its number leave, k falls by the in-flight
ones among them, the timeout count goes to 0, the timer restarts or stops, and a staged record joins the list; a HELD scan
then takes its continuation, whichever it is (R94, R142; what that does is ContinuationsAreTaken). Any other ACK changes
nothing: DONE where it names one of the 128 numbers before the oldest record, SEQ_RANGE otherwise, WRONG_MODE unless the
stream is ON, BAD_LENGTH (R136, R138). -/
def Obligations.AckAnswersByItsPlaceInTheList : Prop :=
  (∀ (s : State) (token high low : Byte) (rest : List Frame) (oldest newest : Queued) (between marked fresh : List Queued)
      (a : Word16) (k : Nat) (u : State),
      s.Executes { kind := 0x2A, token := token, payload := [high, low] } rest →
      a = BitVec.ofNat 16 (high.toNat * 256 + low.toNat) → s.stream.state = .on →
      s.queue.list = marked ++ fresh → (marked = [oldest] ∧ newest = oldest ∨ marked = oldest :: between ++ [newest]) →
      (∀ e ∈ marked, e.sent = true) → (∀ e ∈ fresh, e.sent = false) → s.stream.inFlight ≤ marked.length →
      seqDistance oldest.record.seq a ≤ seqDistance oldest.record.seq newest.record.seq →
      k = s.stream.inFlight - ((marked.take s.stream.inFlight).filter fun e =>
          decide (seqDistance oldest.record.seq e.record.seq ≤ seqDistance oldest.record.seq a)).length →
      u = { s with
          queue := { s.queue with
            list := (marked.filter fun e =>
                decide (seqDistance oldest.record.seq a < seqDistance oldest.record.seq e.record.seq)) ++ fresh
              ++ (match s.queue.staged with | some r => [{ record := r, sent := false }] | none => [])
            staged := none }
          stream := { s.stream with inFlight := k, timeouts := 0, timer := if k = 0 then none else some 0 } } →
      (s.queue.staged = none ∨ s.seq.scan ≠ .held →
        exec .ack s = .next (u.answered { kind := 0x2A, token := token, payload := [high, low] } rest [0x00]))
      ∧ (∀ next, s.queue.staged ≠ none → s.seq.scan = .held → s.seq.cont = some next →
        exec .ack s = .next (((u.withSeq { s.seq with scan := .running }).takeContinuation next).answered
          { kind := 0x2A, token := token, payload := [high, low] } rest [0x00])))
  ∧ (∀ (s : State) (token : Byte) (p : List Byte) (rest : List Frame),
      s.Executes { kind := 0x2A, token := token, payload := p } rest →
        (p.length ≠ 2 → exec .ack s = .next (s.answered { kind := 0x2A, token := token, payload := p } rest [0x01]))
        ∧ (p.length = 2 → s.stream.state ≠ .on →
          exec .ack s = .next (s.answered { kind := 0x2A, token := token, payload := p } rest [0x07]))
        ∧ (∀ (high low : Byte) (a : Word16) (marked fresh : List Queued), p = [high, low] →
          a = BitVec.ofNat 16 (high.toNat * 256 + low.toNat) → s.stream.state = .on →
          s.queue.list = marked ++ fresh → (∀ e ∈ marked, e.sent = true) → (∀ e ∈ fresh, e.sent = false) →
          (∀ newest, marked.getLast? = some newest →
            seqDistance s.queue.oldestSeq newest.record.seq < seqDistance s.queue.oldestSeq a) →
          (1 ≤ seqDistance a s.queue.oldestSeq → seqDistance a s.queue.oldestSeq ≤ 128 →
            exec .ack s = .next (s.answered { kind := 0x2A, token := token, payload := p } rest [0x00]))
          ∧ (seqDistance a s.queue.oldestSeq = 0 ∨ 128 < seqDistance a s.queue.oldestSeq →
            exec .ack s = .next (s.answered { kind := 0x2A, token := token, payload := p } rest [0x08]))))

/-- The retransmit timer's expiry (R134): the in-flight records become returned, in place and marked; k becomes 0, the
timer stops and the timeout count rises by 1; the eighth in a row stalls the stream with STREAM_STALLED. That the expiry
lets the time left on the timer pass for every block is the model's choice (log entry 2). -/
def Obligations.RetransmitExpiryReturnsTheInFlightRecords : Prop :=
  ∀ (s : State) (g : Nat), s.pins.resetLow = false →
    (s.stream.timer = none → exec .retransmitExpiry s = .next s)
    ∧ (s.stream.timer = some g → s.stream.timeouts + 1 < 8 →
      exec .retransmitExpiry s = .next ((s.advance (10000 - g)).withStream { s.stream with
        inFlight := 0, timer := none, timeouts := s.stream.timeouts + 1 }))
    ∧ (∀ e more, s.stream.timer = some g → 8 ≤ s.stream.timeouts + 1 → s.queue.list = e :: more →
      exec .retransmitExpiry s = .next (((s.advance (10000 - g)).withStream { s.stream with
        state := .stalled, inFlight := 0, timer := none, timeouts := s.stream.timeouts + 1 }).raise
          .streamStalled e.record.seq))

/-! ## Events -/

/-- What a raise does to its entry, and that it reaches nothing else (R160). -/
def Obligations.RaiseCountsIntoItsEntry : Prop :=
  ∀ (s : State) (k : EventKind) (detail : Word16),
    ((s.events.get k).pending = false →
      (s.raise k detail).events.get k
        = { pending := true, count := 1, detail := detail, due := s.events.subscription.getLsbD k.number })
    ∧ ((s.events.get k).pending = true → (s.events.get k).count < 255 →
      (s.raise k detail).events.get k = { s.events.get k with count := (s.events.get k).count + 1 })
    ∧ ((s.events.get k).pending = true → 255 ≤ (s.events.get k).count →
      (s.raise k detail).events.get k = s.events.get k)
    ∧ (∀ j, j ≠ k → (s.raise k detail).events.get j = s.events.get j)
    ∧ (s.raise k detail).events.subscription = s.events.subscription
    ∧ s.raise k detail = { s with events := (s.raise k detail).events }

/-- EVENTS (R164, R165): the reply shows the nine entries as they stood and the subscription set; the kinds of the clear
set are emptied and the others kept; a payload that is neither empty nor one set, and a set that names anything but kinds
1 to 9, are refused. -/
def Obligations.EventsReadsAndClears : Prop :=
  (∀ (s : State) (token : Byte) (p : List Byte) (rest : List Frame), p.length ≠ 0 → p.length ≠ 2 →
    s.Executes { kind := 0x30, token := token, payload := p } rest →
      exec .events s = .next (s.answered { kind := 0x30, token := token, payload := p } rest [0x01]))
  ∧ ∀ (s : State) (token : Byte) (p : List Byte) (rest : List Frame) (m : Word16),
    s.Executes { kind := 0x30, token := token, payload := p } rest →
    (p = [] ∧ m = 0) ∨ (∃ high low : Byte, p = [high, low] ∧ m = high ++ low) →
      ((∃ i, (i = 0 ∨ 10 ≤ i) ∧ m.getLsbD i = true) →
        exec .events s = .next (s.answered { kind := 0x30, token := token, payload := p } rest [0x02]))
      ∧ ((∀ i, i = 0 ∨ 10 ≤ i → m.getLsbD i = false) →
        ∃ events : EventTable,
          (∀ k : EventKind, events.get k = if m.getLsbD k.number
              then { pending := false, count := 0, detail := 0, due := false } else s.events.get k)
          ∧ events.subscription = s.events.subscription
          ∧ exec .events s = .next ((s.withEvents events).answered { kind := 0x30, token := token, payload := p } rest
              (0x00 :: ([EventKind.scanDone, .passDone, .trip, .tripCleared, .paceOverrun, .railFault, .streamStalled,
                    .queueLoss, .mark].flatMap fun k =>
                  [byteOf k.number, if (s.events.get k).pending then 0x01 else 0x00, byteOf (s.events.get k).count]
                    ++ bytes16 (s.events.get k).detail.toNat
                    ++ [if (s.events.get k).due then 0x01 else 0x00])
                ++ bytes16 s.events.subscription.toNat)))

/-- SUBSCRIBE (R161): the set is replaced; a pending kind newly named becomes report-due, a kind not named is not, and a
kind in both sets keeps its mark; the reply carries the set; a wrong length and an illegal set are refused. -/
def Obligations.SubscribeReplacesTheSet : Prop :=
  (∀ (s : State) (token : Byte) (p : List Byte) (rest : List Frame), p.length ≠ 2 →
    s.Executes { kind := 0x31, token := token, payload := p } rest →
      exec .subscribe s = .next (s.answered { kind := 0x31, token := token, payload := p } rest [0x01]))
  ∧ ∀ (s : State) (token high low : Byte) (rest : List Frame) (m : Word16), m = high ++ low →
    s.Executes { kind := 0x31, token := token, payload := [high, low] } rest →
      ((∃ i, (i = 0 ∨ 10 ≤ i) ∧ m.getLsbD i = true) →
        exec .subscribe s = .next (s.answered { kind := 0x31, token := token, payload := [high, low] } rest [0x02]))
      ∧ ((∀ i, i = 0 ∨ 10 ≤ i → m.getLsbD i = false) →
        ∃ events : EventTable,
          (∀ k : EventKind, events.get k = { s.events.get k with
            due :=
              if m.getLsbD k.number = false then false
              else if (s.events.get k).pending = true ∧ s.events.subscription.getLsbD k.number = false then true
              else (s.events.get k).due })
          ∧ events.subscription = m
          ∧ exec .subscribe s = .next ((s.withEvents events).answered
              { kind := 0x31, token := token, payload := [high, low] } rest [0x00, high, low]))

/-! ## The limit monitor -/

/-- The evaluation of a record at its production: the five rows of R147 over the classes of R146, and the two kinds of
record that pass untouched (R145), with the line brought up to date (R149). -/
def Obligations.EvaluationFollowsTheTripTable : Prop :=
  ∀ (s : State) (r : Record) (w : Window) (out band : Bool), s.table[r.channel].window = some w → windowLegal w = true →
    out = decide (r.flags.overrange = true ∨ r.value < w.low ∨ w.high < r.value) →
    band = decide (r.flags.overrange = false ∧ w.low + w.hysteresis ≤ r.value ∧ r.value ≤ w.high - w.hysteresis) →
    (r.flags.skipped = true → s.evaluate r = (r, s))
    ∧ (∀ q : Record, s.table[q.channel].window = none → s.evaluate q = (q, s))
    ∧ (r.flags.skipped = false → s.table[r.channel].trip = .clear → out = true →
      s.evaluate r = ({ r with flags := { r.flags with trip := true } },
        { s with table := s.table.set r.channel { s.table[r.channel] with trip := .tripped }
                 limit := { s.limit with latch := true, line := true }
                 events := s.events.raise .trip (BitVec.ofNat 16 r.channel) }))
    ∧ (r.flags.skipped = false → s.table[r.channel].trip = .clear → out = false → s.evaluate r = (r, s))
    ∧ (r.flags.skipped = false → s.table[r.channel].trip = .tripped → out = true →
      s.evaluate r = ({ r with flags := { r.flags with trip := true } }, s))
    ∧ (r.flags.skipped = false → s.table[r.channel].trip = .tripped → out = false → band = false → s.evaluate r = (r, s))
    ∧ (r.flags.skipped = false → s.table[r.channel].trip = .tripped → band = true →
      ∃ table : Vector Channel 24, table = s.table.set r.channel { s.table[r.channel] with trip := .clear }
        ∧ s.evaluate r = (r,
          { s with table := table
                   limit := { s.limit with line :=
                     if s.limit.mode = .follow then table.toList.any (fun d => d.trip = .tripped) else s.limit.latch }
                   events := s.events.raise .tripCleared (BitVec.ofNat 16 r.channel) }))

/-- The three operations of TRIP_CONTROL and its refusals (R150 to R152). Which rows answer a refused one is the model's
choice (log entry 4). -/
def Obligations.TripControlSetsModeOrClearsLatch : Prop :=
  ∀ (s : State) (token : Byte) (p : List Byte) (rest : List Frame) (any : Bool),
    any = s.table.toList.any (fun d => d.trip = .tripped) →
    s.Executes { kind := 0x32, token := token, payload := p } rest →
      (p = [0x00] → exec .modeFollow s = .next ((s.withLimit { s.limit with mode := .follow, line := any }).answered
        { kind := 0x32, token := token, payload := p } rest
        [0x00, 0x00, if s.limit.latch then 0x01 else 0x00, if any then 0x01 else 0x00]))
      ∧ (p = [0x01] → exec .modeLatched s = .next ((s.withLimit { s.limit with
          mode := .latched, line := s.limit.latch }).answered
        { kind := 0x32, token := token, payload := p } rest
        [0x00, 0x01, if s.limit.latch then 0x01 else 0x00, if s.limit.latch then 0x01 else 0x00]))
      ∧ (p = [0x02] → s.limit.mode = .latched → exec .clearLatch s = .next ((s.withLimit { s.limit with
          latch := false, line := false }).answered
        { kind := 0x32, token := token, payload := p } rest [0x00, 0x01, 0x00, 0x00]))
      ∧ (p = [0x02] → s.limit.mode = .follow → exec .clearLatch s = .next ((s.withLimit { s.limit with
          latch := false, line := any }).answered
        { kind := 0x32, token := token, payload := p } rest [0x00, 0x00, 0x00, if any then 0x01 else 0x00]))
      ∧ (∀ op : Byte, p = [op] → 2 < op.toNat →
        ∀ c ∈ [Instr.modeFollow, .modeLatched, .clearLatch],
          exec c s = .next (s.answered { kind := 0x32, token := token, payload := p } rest [0x02]))
      ∧ (p.length ≠ 1 → ∀ c ∈ [Instr.modeFollow, .modeLatched, .clearLatch],
          exec c s = .next (s.answered { kind := 0x32, token := token, payload := p } rest [0x01]))

/-! ## The converter and range control -/

/-- ZERO ends at its length with the offset stored; INTEGRATE ends at its length with the polarity judged from the mean
input, negative only for a VOLT or CURR input below zero, and the charge of the ideal count on the selected range; outside
its phase each has no effect (R23, R27, R28, R29). That the time left in the phase passes for every block (log entry 2),
that the input is an operand of INTEGRATE_END (log entry 10), and that the stored offset and the coming crossing are
state, the crossing decided at INTEGRATE_END (log entries 7 and 10), is the model's choice. -/
def Obligations.ConverterRunsItsPhases : Prop :=
  ∀ (s : State) (md : Mode) (f : MeasFunction) (input : MeanInput), s.pins.resetLow = false →
    (s.conv.phase ≠ .zero → exec .zeroEnd s = .next s)
    ∧ (s.conv.phase ≠ .integrate → exec (.integrateEnd input) s = .next s)
    ∧ (s.conv.phase = .zero → s.conv.mode = some md →
      exec .zeroEnd s = .next ((s.advance ((if md = .fast then 400 else 2000) - s.conv.ticks)).withConv
        { s.conv with phase := .integrate, ticks := 0, offsetStored := true }))
    ∧ (∀ g range, s.conv.phase = .integrate → s.conv.mode = some md → s.conv.function = some f →
      s.matrix.selection = some (g, range) →
      exec (.integrateEnd input) s = .next ((s.advance ((if md = .fast then 400 else 4000) - s.conv.ticks)).withConv
        { s.conv with phase := .deintegrate, ticks := 0
                      polarity := if f ≠ .ohms ∧ input.microvolts < 0 then .negative else .positive
                      crossing := idealCrossing md f range input }))

/-- The eleven ranges, each with its full scale and unit per count (R3), the reported count of a raw count (R34), and the
ideal count (R31, R32): the magnitude is the raw full scale times the magnitude of the quantity over the full scale,
truncated; below the limit the comparator crosses there, at or above it, on an open point and on a point driven against
the excitation it does not cross. -/
def Obligations.IdealCountIsTheTruncatedRatio : Prop :=
  (highestRange .volt = 3 ∧ highestRange .curr = 1 ∧ highestRange .ohms = 4
      ∧ fullScale .volt 0 = 200000 ∧ fullScale .volt 1 = 2000000 ∧ fullScale .volt 2 = 20000000
      ∧ fullScale .volt 3 = 200000000 ∧ fullScale .curr 0 = 20000 ∧ fullScale .curr 1 = 200000
      ∧ fullScale .ohms 0 = 20000 ∧ fullScale .ohms 1 = 200000 ∧ fullScale .ohms 2 = 2000000
      ∧ fullScale .ohms 3 = 20000000 ∧ fullScale .ohms 4 = 200000000
      ∧ (∀ (f : MeasFunction) (r : Nat), r ≤ highestRange f → fullScale f r = 4000 * unitPerCount f r)
      ∧ (∀ raw : Int, reportedCount .normal raw = raw ∧ reportedCount .fast raw = raw * 10))
  ∧ (∀ (md : Mode) (f : MeasFunction) (range : Nat) (input : MeanInput) (raw limit : Nat),
      raw = (if md = .fast then 400 else 4000) → limit = (if md = .fast then 440 else 4400) →
      (f ≠ .ohms → idealCrossing md f range input
        = if ⌊(raw : ℚ) * |input.microvolts| / (fullScale f range : ℚ)⌋₊ < limit
          then some ⌊(raw : ℚ) * |input.microvolts| / (fullScale f range : ℚ)⌋₊ else none)
      ∧ (∀ x : ℚ, 0 ≤ x → input.ohms = .resistance x → idealCrossing md .ohms range input
        = if ⌊(raw : ℚ) * x / (fullScale .ohms range : ℚ)⌋₊ < limit
          then some ⌊(raw : ℚ) * x / (fullScale .ohms range : ℚ)⌋₊ else none)
      ∧ (input.ohms = .openPoint ∨ input.ohms = .drivenAgainst → idealCrossing md .ohms range input = none))

/-- A conversion takes the ZERO length, the INTEGRATE length and the length of DEINTEGRATE: 6000 + m or 10400 ticks in
NORMAL, 800 + m or 1240 in FAST, and the scan clock counts them (R23, R36, R80). It is a claim about the model's time:
that an expiry command takes the time left on its timer and other commands take none is its choice (log entry 2). -/
def Obligations.ConversionTakesItsTicks : Prop :=
  ∀ (s a b t : State) (md : Mode) (input : MeanInput), s.pins.resetLow = false → s.seq.scan ≠ .idle →
    s.conv.phase = .zero → s.conv.ticks = 0 → s.conv.mode = some md →
    exec .zeroEnd s = .next a → exec (.integrateEnd input) a = .next b →
    (∀ m, b.conv.crossing = some m → exec .deintegrateCrossing b = .next t →
      t.seq.clock = (s.seq.clock + ((if md = .fast then 800 else 6000) + m)) % clockPeriod)
    ∧ (b.conv.crossing = none → exec .deintegrateLimit b = .next t →
      t.seq.clock = (s.seq.clock + (if md = .fast then 1240 else 10400)) % clockPeriod)

/-- A sample of an EACH step on a fixed range is accepted whatever its outcome and makes a record. For a sample that is not
the last, of a channel with no window: in RUNNING with room the record joins the list and the next sample's conversion
begins at once on the connection in place; from PAUSING the scan is PAUSED before the next sample with the matrix open; on
a full list under STALL the record is staged and the scan holds, HELD with the matrix as it was or PAUSED. For every
sample of an EACH step, on a fixed range or on AUTO, its last or not, with a window or none and under every policy: the
record takes its number, is evaluated (R109; EvaluationFollowsTheTripTable) and admitted (AdmissionFollowsThePolicy), and
the scan goes on or holds by GoesOnAfterRecord (R61, R66, R67, R88 to R93, R96). That the time the conversion still had to
run passes for every block, and so the record's time, is the model's choice (log entry 2); so are the phase timer of the open
matrix, 0 (log entry 17), and the sample range and change count after acceptance, none and 0 (log entry 18); that no
continuation is held in PAUSED is its reading (log entry 19, DEDUCED). -/
def Obligations.FixedRangeSampleMakesARecord : Prop :=
  (∀ (s : State) (st : Step) (range wait : Nat) (md : Mode) (c : Instr) (count : Int) (ovr : Bool) (r : Record),
    s.ConvertsFor st range → s.Delivers md c count ovr wait →
    s.table[st.channel].range = .fixed range → st.mean = false → s.seq.sample < st.samples →
    s.table[st.channel].window = none →
    r = s.measuredRecord st md range count ovr false (s.advance wait).seq.clockMs →
    (s.seq.scan = .running → s.queue.list.length < 128 →
      exec c s = .next { s.advance wait with
        conv := { Converter.idle with phase := .zero, function := some s.table[st.channel].function,
                                      mode := some s.table[st.channel].mode }
        ranging := { sampleRange := some range, changes := 0, lock := s.ranging.lock }
        seq := { (s.advance wait).seq with sample := s.seq.sample + 1, cont := some .measure, redo := false }
        queue := { s.queue with list := s.queue.list ++ [{ record := r, sent := false }]
                                nextSeq := s.queue.nextSeq + 1 } })
    ∧ (s.seq.scan = .pausing → s.queue.list.length < 128 →
      exec c s = .next { s.advance wait with
        conv := .idle
        matrix := .opened
        ranging := { sampleRange := none, changes := 0, lock := s.ranging.lock }
        seq := { (s.advance wait).seq with
          scan := .paused, cont := none, resume := some (.within .nextSample), redo := false }
        queue := { s.queue with list := s.queue.list ++ [{ record := r, sent := false }]
                                nextSeq := s.queue.nextSeq + 1 } })
    ∧ (s.seq.scan = .running → 128 ≤ s.queue.list.length → s.settings.policy = .stall →
      exec c s = .next { s.advance wait with
        conv := .idle
        ranging := { sampleRange := none, changes := 0, lock := s.ranging.lock }
        seq := { (s.advance wait).seq with scan := .held, cont := some .nextSample, redo := false }
        queue := { s.queue with staged := some r, nextSeq := s.queue.nextSeq + 1 } })
    ∧ (s.seq.scan = .pausing → 128 ≤ s.queue.list.length → s.settings.policy = .stall →
      exec c s = .next { s.advance wait with
        conv := .idle
        matrix := .opened
        ranging := { sampleRange := none, changes := 0, lock := s.ranging.lock }
        seq := { (s.advance wait).seq with
          scan := .paused, cont := none, resume := some (.within .nextSample), redo := false }
        queue := { s.queue with staged := some r, nextSeq := s.queue.nextSeq + 1 } }))
  ∧ (∀ (s u v : State) (st : Step) (range wait : Nat) (md : Mode) (c : Instr) (count : Int) (ovr hunt : Bool) (r : Record)
      (a : Admission),
    s.ConvertsFor st range → s.Delivers md c count ovr wait → s.seq.scan = .running ∨ s.seq.scan = .pausing →
    st.mean = false → s.Accepts st range count ovr hunt →
    r = s.measuredRecord st md range count ovr hunt (s.advance wait).seq.clockMs →
    u = { s.afterAcceptance st range wait ovr with
      seq := { (s.advance wait).seq with redo := false }
      queue := { s.queue with nextSeq := s.queue.nextSeq + 1 } } →
    (a, v) = (u.evaluate r).2.admitRecord (u.evaluate r).1 →
      GoesOnAfterRecord st (decide (st.samples ≤ s.seq.sample)) a v (exec c s))

/-- An AUTO sample of an EACH step, not its last, that wants no change, or wants one after four changes, is accepted on its
range, in the second case with HUNT (R62, R64, R65, R66). Without overrange the remembered range becomes that range, and
the next sample begins on the connection in place; with an overrange, on the highest range or after four changes, it
stays, and the next sample begins on it, with a break where it is another range (R43, R60, R67). In PAUSING every outcome
is accepted, with HUNT where a change was wanted (R69, R96). The samples that end a step, windows and full lists are in
FixedRangeSampleMakesARecord. That the time the conversion still had to run passes for every block, and so the record's
time, is the model's choice (log entry 2); so are the phase timer of the open matrix, 0 (log entry 17), and the sample
range and change count after acceptance, none and 0 (log entry 18); that no continuation is held in PAUSED is its reading
(log entry 19, DEDUCED). -/
def Obligations.AutoSampleIsAcceptedOnItsRange : Prop :=
  ∀ (s : State) (st : Step) (range wait : Nat) (md : Mode) (c : Instr) (count : Int) (ovr hunt : Bool) (r : Record),
    s.ConvertsFor st range → s.Delivers md c count ovr wait →
    s.table[st.channel].range = .auto → st.mean = false → s.seq.sample < st.samples →
    s.table[st.channel].window = none → s.queue.list.length < 128 →
    r = s.measuredRecord st md range count ovr hunt (s.advance wait).seq.clockMs →
    (s.seq.scan = .running → ovr = false →
      ((360 ≤ count.natAbs ∨ range = 0) ∧ hunt = false
        ∨ count.natAbs < 360 ∧ 0 < range ∧ 4 ≤ s.ranging.changes ∧ hunt = true) →
      exec c s = .next { s.advance wait with
        table := s.table.set st.channel { s.table[st.channel] with remembered := range }
        conv := { Converter.idle with phase := .zero, function := some s.table[st.channel].function,
                                      mode := some s.table[st.channel].mode }
        ranging := { sampleRange := some range, changes := 0, lock := s.ranging.lock }
        seq := { (s.advance wait).seq with sample := s.seq.sample + 1, cont := some .measure, redo := false }
        queue := { s.queue with list := s.queue.list ++ [{ record := r, sent := false }]
                                nextSeq := s.queue.nextSeq + 1 } })
    ∧ (s.seq.scan = .running → ovr = true →
      (highestRange s.table[st.channel].function ≤ range ∧ hunt = false
        ∨ range < highestRange s.table[st.channel].function ∧ 4 ≤ s.ranging.changes ∧ hunt = true) →
      exec c s = .next { s.advance wait with
        conv := if s.table[st.channel].remembered = range then s.startedOn st else .idle
        matrix := if s.table[st.channel].remembered = range then s.matrix
          else s.breakingTo st s.table[st.channel].remembered
        ranging := { sampleRange := some s.table[st.channel].remembered, changes := 0, lock := s.ranging.lock }
        seq := { (s.advance wait).seq with sample := s.seq.sample + 1, cont := some .measure, redo := false }
        queue := { s.queue with list := s.queue.list ++ [{ record := r, sent := false }]
                                nextSeq := s.queue.nextSeq + 1 } })
    ∧ (s.seq.scan = .pausing → (hunt = true ↔ WantsChange s.table[st.channel].function range count ovr) →
      exec c s = .next { s.advance wait with
        table := if ovr then s.table else s.table.set st.channel { s.table[st.channel] with remembered := range }
        conv := .idle
        matrix := .opened
        ranging := { sampleRange := none, changes := 0, lock := s.ranging.lock }
        seq := { (s.advance wait).seq with
          scan := .paused, cont := none, resume := some (.within .nextSample), redo := false }
        queue := { s.queue with list := s.queue.list ++ [{ record := r, sent := false }]
                                nextSeq := s.queue.nextSeq + 1 } })

/-- A change of range in RUNNING (R62, R63): an overrange below the highest range moves one up, a count below 360 in
magnitude above range 0 moves one down; the outcome is discarded, the change is counted, and the matrix breaks to the new
range. That the time the conversion still had to run passes for every block is the model's choice (log entry 2). -/
def Obligations.AutoRangeMovesOneRangeAtATime : Prop :=
  ∀ (s : State) (st : Step) (range range' wait : Nat) (md : Mode) (c : Instr) (count : Int) (ovr : Bool),
    s.ConvertsFor st range → s.Delivers md c count ovr wait → s.seq.scan = .running →
    s.table[st.channel].range = .auto → st.mean = false ∨ s.ranging.lock = none → s.ranging.changes < 4 →
    (ovr = true ∧ range < highestRange s.table[st.channel].function ∧ range' = range + 1
      ∨ ovr = false ∧ count.natAbs < 360 ∧ 0 < range ∧ range' + 1 = range) →
      exec c s = .next { s.advance wait with
        conv := .idle
        ranging := { sampleRange := some range', changes := s.ranging.changes + 1, lock := s.ranging.lock }
        matrix := { phase := .breaking, channel := none, selection := none, excitation := false, timer := 0,
                    target := some { channel := st.channel, function := s.table[st.channel].function, range := range',
                                     settle := s.table[st.channel].settle } } }

/-- A MEAN step, on a fixed range or on AUTO: a sample that is not its last adds its count to the accumulator and the next
begins, on AUTO locked to the range of the first, or in PAUSING the scan is PAUSED before it with the step lock kept; the
last gives the step's one record, its count the sum divided by the samples and truncated toward zero, and the scan goes on
or holds by GoesOnAfterRecord, which frees the step lock (R60, R61, R66 to R69, R88 to R93, R96). That the time the
conversion still had to run passes for every block, and so the record's time, is the model's choice (log entry 2); so are
the phase timer of the open matrix, 0 (log entry 17), and the sample range and change count after acceptance, none and 0
(log entry 18); that no continuation is held in PAUSED is its reading (log entry 19, DEDUCED). -/
def Obligations.MeanStepRecordsTheTruncatedMean : Prop :=
  (∀ (s : State) (st : Step) (range wait : Nat) (md : Mode) (c : Instr) (count : Int) (ovr : Bool),
    s.ConvertsFor st range → s.Delivers md c count ovr wait → s.seq.scan = .running →
    s.table[st.channel].range = .fixed range → st.mean = true → s.ranging.lock = none →
    (s.seq.sample < st.samples →
      exec c s = .next { s.advance wait with
        conv := { Converter.idle with phase := .zero, function := some s.table[st.channel].function,
                                      mode := some s.table[st.channel].mode }
        ranging := { sampleRange := some range, changes := 0, lock := none }
        seq := { (s.advance wait).seq with
          sample := s.seq.sample + 1, cont := some .measure
          acc := { sum := s.seq.acc.sum + count, overrange := s.seq.acc.overrange || ovr, hunt := s.seq.acc.hunt } } })
    ∧ (s.seq.sample = st.samples → s.queue.list.length + s.list.length < 128 →
      ∃ t r, exec c s = .next t ∧ (s.queue.list ++ [{ record := r, sent := false }]) <+: t.queue.list
        ∧ r.seq = s.queue.nextSeq ∧ r.pass = s.seq.pass ∧ r.step = s.seq.step ∧ r.channel = st.channel
        ∧ r.sample = st.samples ∧ r.function = some s.table[st.channel].function ∧ r.range = range
        ∧ r.count = (s.seq.acc.sum + count).tdiv st.samples
        ∧ r.value = r.count * (unitPerCount s.table[st.channel].function range : Int)
        ∧ r.flags.mean = true ∧ r.flags.overrange = (s.seq.acc.overrange || ovr) ∧ r.flags.hunt = s.seq.acc.hunt
        ∧ r.flags.fast = decide (md = .fast) ∧ r.flags.redone = s.seq.redo ∧ r.flags.skipped = false))
  ∧ (∀ (s : State) (st : Step) (range wait : Nat) (md : Mode) (c : Instr) (count : Int) (ovr hunt : Bool) (acc : MeanAcc),
    s.ConvertsFor st range → s.Delivers md c count ovr wait → st.mean = true → s.Accepts st range count ovr hunt →
    (s.table[st.channel].range ≠ .auto → s.ranging.lock = none) →
    acc = { sum := s.seq.acc.sum + count, overrange := s.seq.acc.overrange || ovr, hunt := s.seq.acc.hunt || hunt } →
    (s.seq.sample < st.samples → s.seq.scan = .running →
      exec c s = .next { s.afterAcceptance st range wait ovr with
        conv := s.startedOn st
        ranging := { (s.afterAcceptance st range wait ovr).ranging with sampleRange := some range }
        seq := { (s.advance wait).seq with sample := s.seq.sample + 1, cont := some .measure, acc := acc } })
    ∧ (s.seq.sample < st.samples → s.seq.scan = .pausing →
      exec c s = .next { s.afterAcceptance st range wait ovr with
        matrix := .opened
        seq := { (s.advance wait).seq with
          scan := .paused, cont := none, resume := some (.within .nextSample), acc := acc } })
    ∧ (∀ (u v : State) (mean : Int) (r : Record) (a : Admission), st.samples ≤ s.seq.sample →
      s.seq.scan = .running ∨ s.seq.scan = .pausing → mean = acc.sum.tdiv st.samples →
      r = { s.measuredRecord st md range mean acc.overrange acc.hunt (s.advance wait).seq.clockMs with
        sample := st.samples
        flags := { overrange := acc.overrange, hunt := acc.hunt, fast := decide (md = .fast), mean := true,
                   skipped := false, redone := s.seq.redo, trip := false } } →
      u = { s.afterAcceptance st range wait ovr with
        seq := { (s.advance wait).seq with acc := acc, redo := false }
        queue := { s.queue with nextSeq := s.queue.nextSeq + 1 } } →
      (a, v) = (u.evaluate r).2.admitRecord (u.evaluate r).1 → GoesOnAfterRecord st true a v (exec c s)))

/-! ## The switch matrix and the analog rail -/

/-- What the matrix does with a connect request, by rail state, phase and target (R42, R43, R45), the connected report of
a connection in place starting the converter at once (R24). A start request is not acted on while the converter is not
IDLE, the matrix not CONNECTED or the scan neither RUNNING nor PAUSING: the connection stands, and a conversion in progress
goes on as it was started (R25). How BREAK and SETTLE end: the target connected and selected with the excitation on
exactly for OHMS, then CONNECTED and the converter started where it can be, at once where the settle time is 0 (R41, R44).
The model's own are: the time left in the phase passes for every block (log entry 2), a settle time of 0 ends inside
BREAK_END (log entry 12, DEDUCED), the target is kept in CONNECTED (log entry 7, DEDUCED), and the phase timer reads 0
there (log entry 17). -/
def Obligations.MatrixBreaksBeforeItMakes : Prop :=
  (∀ (s : State) (target : Target) (broken : Matrix),
      broken = { phase := .breaking, channel := none, selection := none, excitation := false, target := some target,
                 timer := 0 } →
      (s.rail.state ≠ .ready → s.connect target = s)
      ∧ (s.rail.state = .ready → s.matrix.phase = .opened → s.connect target = s.withMatrix broken)
      ∧ (s.rail.state = .ready → s.matrix.phase = .connected →
        s.matrix.channel ≠ some target.channel ∨ s.matrix.selection ≠ some (target.function, target.range) →
        s.connect target = s.withMatrix broken)
      ∧ (∀ st, s.rail.state = .ready → s.matrix.phase = .connected → s.matrix.channel = some target.channel →
        s.matrix.selection = some (target.function, target.range) → s.conv.phase = .idle → s.currentStep = some st →
        s.seq.scan = .running ∨ s.seq.scan = .pausing →
        s.connect target = s.withConv { Converter.idle with
          phase := .zero, function := some s.table[st.channel].function, mode := some s.table[st.channel].mode })
      ∧ (s.rail.state = .ready → s.matrix.phase = .connected → s.matrix.channel = some target.channel →
        s.matrix.selection = some (target.function, target.range) →
        s.conv.phase ≠ .idle ∨ (s.seq.scan ≠ .running ∧ s.seq.scan ≠ .pausing) → s.connect target = s)
      ∧ (s.rail.state = .ready → s.matrix.phase = .breaking ∨ s.matrix.phase = .settling →
        (s.matrix.target = some target → s.connect target = s)
        ∧ (s.matrix.target ≠ some target → s.connect target = s.withMatrix broken)))
  ∧ (∀ s : State, s.conv.phase ≠ .idle ∨ s.matrix.phase ≠ .connected ∨ (s.seq.scan ≠ .running ∧ s.seq.scan ≠ .pausing) →
      s.startConversion = s)
  ∧ (∀ (s : State) (target : Target), s.pins.resetLow = false →
      (s.matrix.phase ≠ .breaking → exec .breakEnd s = .next s)
      ∧ (s.matrix.phase ≠ .settling → exec .settleEnd s = .next s)
      ∧ (s.matrix.phase = .breaking → s.matrix.target = some target → 0 < target.settle →
        exec .breakEnd s = .next ((s.advance (40 - s.matrix.timer)).withMatrix
          { phase := .settling, channel := some target.channel, selection := some (target.function, target.range),
            excitation := decide (target.function = .ohms), target := some target, timer := 0 }))
      ∧ (∀ st, s.matrix.phase = .breaking → s.matrix.target = some target → target.settle = 0 → s.conv.phase = .idle →
        s.currentStep = some st → s.seq.scan = .running ∨ s.seq.scan = .pausing →
        exec .breakEnd s = .next { s.advance (40 - s.matrix.timer) with
          matrix := { phase := .connected, channel := some target.channel,
                      selection := some (target.function, target.range),
                      excitation := decide (target.function = .ohms), target := some target, timer := 0 }
          conv := { Converter.idle with phase := .zero, function := some s.table[st.channel].function,
                                        mode := some s.table[st.channel].mode } })
      ∧ (∀ st, s.matrix.phase = .settling → s.matrix.target = some target → s.conv.phase = .idle →
        s.currentStep = some st → s.seq.scan = .running ∨ s.seq.scan = .pausing →
        exec .settleEnd s = .next { s.advance (target.settle * 40 - s.matrix.timer) with
          matrix := { s.matrix with phase := .connected, timer := 0 }
          conv := { Converter.idle with phase := .zero, function := some s.table[st.channel].function,
                                        mode := some s.table[st.channel].mode } })
      ∧ (s.matrix.target = some target → s.conv.phase ≠ .idle ∨ (s.seq.scan ≠ .running ∧ s.seq.scan ≠ .pausing) →
        (s.matrix.phase = .breaking → target.settle = 0 →
          exec .breakEnd s = .next ((s.advance (40 - s.matrix.timer)).withMatrix
            { phase := .connected, channel := some target.channel, selection := some (target.function, target.range),
              excitation := decide (target.function = .ohms), target := some target, timer := 0 }))
        ∧ (s.matrix.phase = .settling →
          exec .settleEnd s = .next ((s.advance (target.settle * 40 - s.matrix.timer)).withMatrix
            { s.matrix with phase := .connected, timer := 0 }))))

/-- The rail comes up inside its start window and goes off when its hold time is over; a rail fault, START_TIMEOUT or
DROP, is one event for the rail, the matrix, the converter, the scan and the event table, and a DROP in the hold time
leaves the scan IDLE and the rail OFF; in the other rail states none of the four has an effect (R50, R52 to R55, R71,
R100). The model's own are: the position stored in FAULTED is the one STATUS would have reported, also from HELD and
PAUSED (log entry 6, DEDUCED), no continuation is held in FAULTED (log entry 19), the change count of the dropped sample
reads 0 (log entry 18), the time left on a timer that expires passes for every block (log entry 2), and the phase timer of
the open matrix reads 0 (log entry 17). -/
def Obligations.RailStartsHoldsAndFaults : Prop :=
  (∀ s : State, s.pins.resetLow = false →
      (s.rail.state = .starting →
        exec .railInsideWindow s = .next (s.withRail { s.rail with state := .ready, startTimer := none }))
      ∧ (s.rail.state ≠ .starting → exec .railInsideWindow s = .next s ∧ exec .startTimeout s = .next s)
      ∧ (∀ g, s.rail.state = .ready → s.rail.holdTimer = some g →
        exec .holdExpiry s = .next ((s.advance (80000 - g)).withRail
          { state := .off, startTimer := none, holdTimer := none, cause := none }))
      ∧ (s.rail.state ≠ .ready ∨ s.rail.holdTimer = none → exec .holdExpiry s = .next s)
      ∧ (s.rail.state ≠ .ready → exec .drop s = .next s))
  ∧ (∀ (s u : State) (c : Instr) (cause : RailCause) (detail : Word16), s.pins.resetLow = false →
      (c = .startTimeout ∧ cause = .startTimeout ∧ detail = 1 ∧ s.rail.state = .starting
          ∧ (∃ g, s.rail.startTimer = some g ∧ u = s.advance (1200 - g))
        ∨ c = .drop ∧ cause = .drop ∧ detail = 2 ∧ s.rail.state = .ready ∧ u = s) →
      (s.seq.scan ≠ .idle → exec c s = .next { u with
        matrix := .opened
        conv := .idle
        rail := { state := .fault, startTimer := none, holdTimer := none, cause := some cause }
        ranging := .dropped
        seq := { u.seq with scan := .faulted, step := s.position.1, sample := s.position.2, cont := none, resume := none,
                            acc := .empty, redo := false }
        events := s.events.raise .railFault detail })
      ∧ (s.seq.scan = .idle → exec c s = .next { u with
        matrix := .opened
        conv := .idle
        rail := { state := .off, startTimer := none, holdTimer := none, cause := none }
        events := s.events.raise .railFault detail }))

/-! ## Passes, the pace and the scan clock -/

/-- A pass starts when the scan is ARMED, the rail READY and the pace condition holds: the pass is numbered, the latch and
the pace-due mark are consumed, the pace timer restarts under TIMED, and in RUNNING the start of step 0 is taken (R82),
whatever the list, the pace, the passes and the room in the queue (what taking it does, also for a disabled channel, is
ContinuationsAreTaken). With the first step's channel enabled its first sample is connected (R60, R86, R88). Short of any
of the three, nothing happens. -/
def Obligations.PassStartsWhenRailAndPaceAreReady : Prop :=
  ∀ (s : State) (paced : Bool), s.pins.resetLow = false →
    paced = (match s.settings.pace with
      | .free => decide (s.seq.pass = 0 ∨ s.seq.clockMs ≠ s.seq.passStart)
      | .timed => decide (s.seq.pass = 0) || s.seq.paceDue
      | .triggered => s.seq.latch) →
    (s.seq.scan ≠ .armed ∨ s.rail.state ≠ .ready ∨ paced = false → exec .passStart s = .next s)
    ∧ (∀ u : State, s.seq.scan = .armed → s.rail.state = .ready → paced = true → s.seq.pass ≤ 65535 →
      u = { s with seq := { s.seq with
        scan := .running, pass := if s.seq.pass = 65535 then 1 else s.seq.pass + 1, passStart := s.seq.clockMs
        step := 0, latch := false, paceDue := false, cont := some .redoStep
        paceTimer := if s.settings.pace = .timed then some 0 else s.seq.paceTimer } } →
      exec .passStart s = .next (u.takeContinuation .redoStep))
    ∧ (∀ st more range, s.seq.scan = .armed → s.rail.state = .ready → paced = true → s.list = st :: more →
      s.table[st.channel].enabled = true → s.matrix.phase = .opened → s.ranging.lock = none → s.seq.pass ≤ 65535 →
      range = (match s.table[st.channel].range with | .fixed r => r | .auto => s.table[st.channel].remembered) →
      exec .passStart s = .next { s with
        seq := { s.seq with
          scan := .running, pass := if s.seq.pass = 65535 then 1 else s.seq.pass + 1, passStart := s.seq.clockMs
          step := 0, sample := 1, latch := false, paceDue := false, cont := some .measure
          paceTimer := if s.settings.pace = .timed then some 0 else s.seq.paceTimer }
        ranging := { sampleRange := some range, changes := 0, lock := none }
        matrix := { phase := .breaking, channel := none, selection := none, excitation := false, timer := 0,
                    target := some { channel := st.channel, function := s.table[st.channel].function, range := range,
                                     settle := s.table[st.channel].settle } } })

/-- A pass of one step whose channel is disabled, the last of its scan: one SKIPPED record, the step's MARK, PASS_DONE and
SCAN_DONE, IDLE, and the rail in its hold time (R87, R89, R91, R92). The phase timer of the open matrix reads 0 by the
model's choice (log entry 17). -/
def Obligations.DisabledChannelGivesOneSkippedRecord : Prop :=
  ∀ (s : State) (st : Step), s.pins.resetLow = false → s.seq.scan = .armed → s.rail.state = .ready →
    s.seq.pass = 0 → s.settings.pace = .free → s.settings.passes = s.seq.passesDone + 1 → s.settings.passes ≤ 65535 →
    s.list = [st] → s.table[st.channel].enabled = false → s.queue.list.length < 128 →
      ∃ t, exec .passStart s = .next t
        ∧ t.queue = { s.queue with
            nextSeq := s.queue.nextSeq + 1
            list := s.queue.list ++ [{ sent := false, record := {
              seq := s.queue.nextSeq, pass := 1, step := 0, channel := st.channel, sample := 0, function := none,
              range := 0, count := 0, value := 0, time := s.seq.clockMs
              flags := { overrange := false, hunt := false, fast := false, mean := false, skipped := true,
                         redone := s.seq.redo, trip := false } } }] }
        ∧ t.seq.scan = .idle ∧ t.seq.pass = 1 ∧ t.seq.passesDone = s.settings.passes ∧ t.seq.latch = false
        ∧ t.seq.paceTimer = none ∧ t.seq.clock = s.seq.clock ∧ t.matrix = .opened
        ∧ t.rail = { s.rail with holdTimer := some 0 } ∧ t.table = s.table ∧ t.limit = s.limit
        ∧ t.events = ((if st.mark then s.events.raise .mark 0 else s.events).raise .passDone 1).raise .scanDone
            (BitVec.ofNat 16 s.settings.passes)

/-- The pace timer's expiry sets the pace-due mark, and with a pass in progress that is not the last of a limited scan it
raises PACE_OVERRUN with the pass number (R83, R84); the scan clock counts all time that passes outside IDLE, modulo its
period, and wraps to 0 and runs on when the period is over (R80). When time passes, every running timer counts up to its
limit and stops there (R22, R23, R40, R44, R50, R52, R54, R83, R133, R134, R177), and nothing else changes. How time comes
to pass is the model's choice (log entry 2): the two commands take the time left, and a step with an empty queue takes one
tick, or none while RESET_N is low. -/
def Obligations.PaceTimerAndScanClockRunOut : Prop :=
  (∀ (s due : State) (g : Nat), s.pins.resetLow = false →
      (s.seq.paceTimer = none → exec .paceTimerExpiry s = .next s)
      ∧ (s.seq.paceTimer = some g →
        due = (s.advance (s.settings.interval * 40 - g)).withSeq
          { (s.advance (s.settings.interval * 40 - g)).seq with paceTimer := none, paceDue := true } →
        (s.seq.scan = .armed ∨ s.seq.scan = .faulted ∨ (s.seq.scan = .paused ∧ s.seq.resume = some .toArmed) →
          exec .paceTimerExpiry s = .next due)
        ∧ (s.withinPass = true → s.settings.passes ≠ 0 → s.seq.passesDone + 1 = s.settings.passes →
          exec .paceTimerExpiry s = .next due)
        ∧ (s.withinPass = true → s.settings.passes = 0 ∨ s.seq.passesDone + 1 ≠ s.settings.passes →
          exec .paceTimerExpiry s = .next (due.raise .paceOverrun (BitVec.ofNat 16 s.seq.pass)))))
  ∧ (∀ s : State, s.pins.resetLow = false →
      (s.seq.scan = .idle → exec .scanClockWrap s = .next s)
      ∧ (s.seq.scan ≠ .idle →
        exec .scanClockWrap s = .next (s.advance (clockPeriod - s.seq.clock))
          ∧ (s.advance (clockPeriod - s.seq.clock)).seq.clockMs = 0
          ∧ (s.advance (clockPeriod - s.seq.clock)).seq.clockTicks = 0))
  ∧ (∀ (s : State) (n : Nat),
      (s.advance n).seq.clock
        = if s.seq.scan = .idle then s.seq.clock else (s.seq.clock + n) % clockPeriod)
  ∧ (∀ s : State, s.pending = [] →
      (s.pins.resetLow = true → step s = .next s) ∧ (s.pins.resetLow = false → step s = .next (s.advance 1)))
  ∧ (∀ (s : State) (n zeroing integrating limit settle : Nat) (count : Nat → Nat → Nat),
      zeroing = (if s.conv.mode = some .fast then 400 else 2000) →
      integrating = (if s.conv.mode = some .fast then 400 else 4000) →
      limit = (if s.conv.mode = some .fast then 440 else 4400) →
      settle = (match s.matrix.target with | some t => t.settle * 40 | none => 0) →
      (∀ top t : Nat, (top ≤ t → count top t = t) ∧ (t ≤ top → count top t = min (t + n) top)) →
      ∃ seq : Sequencer,
        s.advance n = { s with
          conv := { s.conv with ticks := match s.conv.phase with
            | .idle => s.conv.ticks
            | .zero => count zeroing s.conv.ticks
            | .integrate => count integrating s.conv.ticks
            | .deintegrate => count (s.conv.crossing.getD limit) s.conv.ticks }
          matrix := { s.matrix with timer := match s.matrix.phase with
            | .opened | .connected => s.matrix.timer
            | .breaking => count 40 s.matrix.timer
            | .settling => count settle s.matrix.timer }
          rail := { s.rail with startTimer := s.rail.startTimer.map (count 1200)
                                holdTimer := s.rail.holdTimer.map (count 80000) }
          seq := seq
          stream := { s.stream with timer := s.stream.timer.map (count 10000) }
          link := { s.link with gapTimer := s.link.gapTimer.map (count 400) } }
        ∧ seq = { s.seq with clockMs := seq.clockMs, clockTicks := seq.clockTicks
                             paceTimer := s.seq.paceTimer.map (count (s.settings.interval * 40)) })

/-! ## What holds at all times -/

/-- Every step keeps the laws of the link: its queues hold at most 4, the receiver's assembly is in order, the repeat cache
holds a request and its own reply, and every reply fits a frame (R172, R174, R178, R182, R198). -/
def Obligations.StepKeepsTheLinkLaws : Prop :=
  (∀ s t : State, LinkLaw s → CacheLaw s → step s = .next t → LinkLaw t ∧ CacheLaw t)
  ∧ (∀ s t : State, ReplyLaw s → step s = .next t → ReplyLaw t)

/-- Every step keeps the law of the event table (R158), and the TRIP line at the level its mode gives it (R149). -/
def Obligations.StepKeepsTheEventAndLineLaws : Prop :=
  (∀ s t : State, EventLaw s → step s = .next t → EventLaw t)
  ∧ (∀ s t : State, LineLaw s → step s = .next t → LineLaw t)

/-- Every step keeps the law of the stream: the marked records are the oldest, the in-flight ones first among them, within
the window, and nothing is in flight unless the stream is ON (R126, R133). -/
def Obligations.StepKeepsTheStreamLaw : Prop :=
  ∀ s t : State, StreamLaw s → step s = .next t → StreamLaw t

/-- Every step keeps all the laws together: those of the list, the queue, the stream, the converter, the matrix, the rail,
the scan's place, range control, the records, the events, the line, the link, the repeat cache and the replies (R22, R40,
R50, R59, R64, R73, R104, R110, R126, R149, R158, R178, R182). The order of sequence numbers, which needs a base to count
from, is in ProductionKeepsSequenceOrder. That the matrix phase timer outside BREAK and SETTLE (log entry 17) and the
sample range and change count while no sample is being measured (log entry 18) read 0, none and 0 is the model's choice,
and that the target is kept in CONNECTED is its reading (log entry 7, DEDUCED). -/
def Obligations.StepKeepsEveryLaw : Prop :=
  ∀ s t : State, Lawful s → CacheLaw s → ReplyLaw s → step s = .next t → Lawful t ∧ CacheLaw t ∧ ReplyLaw t

/-! ## What taking a continuation does -/

/-- The continuations, as a drain, a RESUME and the sample loop take them in RUNNING (R78). The current sample is connected
again on its saved range (R70). The next sample, and the first sample of a step whose channel is enabled, begin on the
range of R60: the change count is 0, and the converter starts at once where the matrix is connected there already, with a
break otherwise (R24, R43, R87, R88). A step whose channel is disabled gives one SKIPPED record, with REDONE where the
redo mark is set, which is admitted without evaluation; the step completes with its MARK, and the next step or the end of
the pass is taken, or kept in HELD when the record was staged (R87, R89 to R91, R93). The end of the pass opens the matrix,
counts the pass and raises PASS_DONE, and then ends the scan in IDLE with SCAN_DONE and the rail's hold, or leaves it
ARMED, or from PAUSING PAUSED to ARMED (R54, R92, R96). That step and sample are then stored as 0
(log entry 6, DEDUCED) and no continuation is held (log entry 19, DEDUCED) is the model's reading, and the phase timer of
the open matrix reads 0 by its choice (log entry 17). -/
def Obligations.ContinuationsAreTaken : Prop :=
  (∀ (s : State) (st : Step) (range : Nat), s.currentStep = some st → s.ranging.sampleRange = some range →
      s.matrix.phase = .opened → s.rail.state = .ready →
      s.takeContinuation .measure = { s with
        seq := { s.seq with cont := some .measure }
        matrix := s.breakingTo st range })
  ∧ (∀ (s : State) (st : Step) (c : Continuation) (sample range : Nat), s.currentStep = some st →
      s.seq.scan = .running → s.rail.state = .ready → s.conv.phase = .idle →
      (c = .nextSample ∧ sample = s.seq.sample + 1 ∨ c = .redoStep ∧ s.table[st.channel].enabled = true ∧ sample = 1) →
      range = (match s.table[st.channel].range with
        | .fixed r => r
        | .auto => if st.mean then s.ranging.lock.getD s.table[st.channel].remembered
            else s.table[st.channel].remembered) →
      (s.matrix.phase = .connected → s.matrix.channel = some st.channel →
        s.matrix.selection = some (s.table[st.channel].function, range) →
        s.takeContinuation c = { s with
          seq := { s.seq with sample := sample, cont := some .measure }
          ranging := { sampleRange := some range, changes := 0, lock := s.ranging.lock }
          conv := s.startedOn st })
      ∧ (s.matrix.phase = .opened ∨ s.matrix.phase = .connected
          ∧ (s.matrix.channel ≠ some st.channel ∨ s.matrix.selection ≠ some (s.table[st.channel].function, range)) →
        s.takeContinuation c = { s with
          seq := { s.seq with sample := sample, cont := some .measure }
          ranging := { sampleRange := some range, changes := 0, lock := s.ranging.lock }
          matrix := s.breakingTo st range }))
  ∧ (∀ (s v w : State) (st : Step) (a : Admission), s.currentStep = some st → s.table[st.channel].enabled = false →
      s.seq.scan = .running →
      (a, v) = ({ s with
        seq := { s.seq with sample := 0, redo := false }
        queue := { s.queue with nextSeq := s.queue.nextSeq + 1 } } : State).admitRecord {
          seq := s.queue.nextSeq, pass := s.seq.pass, step := s.seq.step, channel := st.channel, sample := 0,
          function := none, range := 0, count := 0, value := 0, time := s.seq.clockMs
          flags := { overrange := false, hunt := false, fast := false, mean := false, skipped := true,
                     redone := s.seq.redo, trip := false } } →
      w = { v with
        ranging := { v.ranging with lock := none }
        seq := { v.seq with acc := .empty }
        events := if st.mark then v.events.raise .mark (BitVec.ofNat 16 s.seq.step) else v.events } →
      (a = .goOn → s.takeContinuation .redoStep
        = w.takeContinuation (if s.seq.step + 1 < s.list.length then .nextStep else .endPass))
      ∧ (a = .hold → s.takeContinuation .redoStep = { w with seq := { w.seq with
          scan := .held, cont := some (if s.seq.step + 1 < s.list.length then .nextStep else .endPass) } }))
  ∧ (∀ s : State, s.takeContinuation .nextStep
      = ({ s with seq := { s.seq with step := s.seq.step + 1 } } : State).takeContinuation .redoStep)
  ∧ (∀ (s : State) (done : Nat) (events : EventTable), done = min (s.seq.passesDone + 1) 65535 →
      events = s.events.raise .passDone (BitVec.ofNat 16 s.seq.pass) →
      (s.settings.passes ≠ 0 → s.settings.passes ≤ done →
        s.takeContinuation .endPass = { s with
          matrix := .opened
          rail := match s.rail.state with
            | .ready => { s.rail with holdTimer := some 0 }
            | .starting | .fault => .off
            | .off => s.rail
          seq := { s.seq with scan := .idle, step := 0, sample := 0, passesDone := done, cont := none, resume := none,
                              paceTimer := none, paceDue := false, latch := false }
          events := events.raise .scanDone (BitVec.ofNat 16 done) })
      ∧ (s.settings.passes = 0 ∨ done < s.settings.passes →
        (s.seq.scan ≠ .pausing → s.takeContinuation .endPass = { s with
          matrix := .opened
          seq := { s.seq with scan := .armed, step := 0, sample := 0, passesDone := done, cont := none, resume := none }
          events := events })
        ∧ (s.seq.scan = .pausing → s.takeContinuation .endPass = { s with
          matrix := .opened
          seq := { s.seq with scan := .paused, step := 0, sample := 0, passesDone := done, cont := none,
                              resume := some .toArmed }
          events := events })))
end

