-- ==== Sys2Proof/Laws/State.lean ====
section
/-! SUPPORT. One lemma per block per replacement of a block: what a `with` leaves and what it writes, true by rfl. -/

namespace Sys2Proof.Machine

@[simp] theorem State.withPins_pins (s : State) (x : Pins) : (s.withPins x).pins = x := rfl
@[simp] theorem State.withPins_table (s : State) (x : Pins) : (s.withPins x).table = s.table := rfl
@[simp] theorem State.withPins_conv (s : State) (x : Pins) : (s.withPins x).conv = s.conv := rfl
@[simp] theorem State.withPins_matrix (s : State) (x : Pins) : (s.withPins x).matrix = s.matrix := rfl
@[simp] theorem State.withPins_rail (s : State) (x : Pins) : (s.withPins x).rail = s.rail := rfl
@[simp] theorem State.withPins_ranging (s : State) (x : Pins) : (s.withPins x).ranging = s.ranging := rfl
@[simp] theorem State.withPins_list (s : State) (x : Pins) : (s.withPins x).list = s.list := rfl
@[simp] theorem State.withPins_settings (s : State) (x : Pins) : (s.withPins x).settings = s.settings := rfl
@[simp] theorem State.withPins_seq (s : State) (x : Pins) : (s.withPins x).seq = s.seq := rfl
@[simp] theorem State.withPins_queue (s : State) (x : Pins) : (s.withPins x).queue = s.queue := rfl
@[simp] theorem State.withPins_stream (s : State) (x : Pins) : (s.withPins x).stream = s.stream := rfl
@[simp] theorem State.withPins_limit (s : State) (x : Pins) : (s.withPins x).limit = s.limit := rfl
@[simp] theorem State.withPins_events (s : State) (x : Pins) : (s.withPins x).events = s.events := rfl
@[simp] theorem State.withPins_link (s : State) (x : Pins) : (s.withPins x).link = s.link := rfl
@[simp] theorem State.withPins_pending (s : State) (x : Pins) : (s.withPins x).pending = s.pending := rfl

@[simp] theorem State.withTable_pins (s : State) (x : Vector Channel 24) : (s.withTable x).pins = s.pins := rfl
@[simp] theorem State.withTable_table (s : State) (x : Vector Channel 24) : (s.withTable x).table = x := rfl
@[simp] theorem State.withTable_conv (s : State) (x : Vector Channel 24) : (s.withTable x).conv = s.conv := rfl
@[simp] theorem State.withTable_matrix (s : State) (x : Vector Channel 24) : (s.withTable x).matrix = s.matrix := rfl
@[simp] theorem State.withTable_rail (s : State) (x : Vector Channel 24) : (s.withTable x).rail = s.rail := rfl
@[simp] theorem State.withTable_ranging (s : State) (x : Vector Channel 24) : (s.withTable x).ranging = s.ranging := rfl
@[simp] theorem State.withTable_list (s : State) (x : Vector Channel 24) : (s.withTable x).list = s.list := rfl
@[simp] theorem State.withTable_settings (s : State) (x : Vector Channel 24) : (s.withTable x).settings = s.settings := rfl
@[simp] theorem State.withTable_seq (s : State) (x : Vector Channel 24) : (s.withTable x).seq = s.seq := rfl
@[simp] theorem State.withTable_queue (s : State) (x : Vector Channel 24) : (s.withTable x).queue = s.queue := rfl
@[simp] theorem State.withTable_stream (s : State) (x : Vector Channel 24) : (s.withTable x).stream = s.stream := rfl
@[simp] theorem State.withTable_limit (s : State) (x : Vector Channel 24) : (s.withTable x).limit = s.limit := rfl
@[simp] theorem State.withTable_events (s : State) (x : Vector Channel 24) : (s.withTable x).events = s.events := rfl
@[simp] theorem State.withTable_link (s : State) (x : Vector Channel 24) : (s.withTable x).link = s.link := rfl
@[simp] theorem State.withTable_pending (s : State) (x : Vector Channel 24) : (s.withTable x).pending = s.pending := rfl

@[simp] theorem State.withConv_pins (s : State) (x : Converter) : (s.withConv x).pins = s.pins := rfl
@[simp] theorem State.withConv_table (s : State) (x : Converter) : (s.withConv x).table = s.table := rfl
@[simp] theorem State.withConv_conv (s : State) (x : Converter) : (s.withConv x).conv = x := rfl
@[simp] theorem State.withConv_matrix (s : State) (x : Converter) : (s.withConv x).matrix = s.matrix := rfl
@[simp] theorem State.withConv_rail (s : State) (x : Converter) : (s.withConv x).rail = s.rail := rfl
@[simp] theorem State.withConv_ranging (s : State) (x : Converter) : (s.withConv x).ranging = s.ranging := rfl
@[simp] theorem State.withConv_list (s : State) (x : Converter) : (s.withConv x).list = s.list := rfl
@[simp] theorem State.withConv_settings (s : State) (x : Converter) : (s.withConv x).settings = s.settings := rfl
@[simp] theorem State.withConv_seq (s : State) (x : Converter) : (s.withConv x).seq = s.seq := rfl
@[simp] theorem State.withConv_queue (s : State) (x : Converter) : (s.withConv x).queue = s.queue := rfl
@[simp] theorem State.withConv_stream (s : State) (x : Converter) : (s.withConv x).stream = s.stream := rfl
@[simp] theorem State.withConv_limit (s : State) (x : Converter) : (s.withConv x).limit = s.limit := rfl
@[simp] theorem State.withConv_events (s : State) (x : Converter) : (s.withConv x).events = s.events := rfl
@[simp] theorem State.withConv_link (s : State) (x : Converter) : (s.withConv x).link = s.link := rfl
@[simp] theorem State.withConv_pending (s : State) (x : Converter) : (s.withConv x).pending = s.pending := rfl

@[simp] theorem State.withMatrix_pins (s : State) (x : Matrix) : (s.withMatrix x).pins = s.pins := rfl
@[simp] theorem State.withMatrix_table (s : State) (x : Matrix) : (s.withMatrix x).table = s.table := rfl
@[simp] theorem State.withMatrix_conv (s : State) (x : Matrix) : (s.withMatrix x).conv = s.conv := rfl
@[simp] theorem State.withMatrix_matrix (s : State) (x : Matrix) : (s.withMatrix x).matrix = x := rfl
@[simp] theorem State.withMatrix_rail (s : State) (x : Matrix) : (s.withMatrix x).rail = s.rail := rfl
@[simp] theorem State.withMatrix_ranging (s : State) (x : Matrix) : (s.withMatrix x).ranging = s.ranging := rfl
@[simp] theorem State.withMatrix_list (s : State) (x : Matrix) : (s.withMatrix x).list = s.list := rfl
@[simp] theorem State.withMatrix_settings (s : State) (x : Matrix) : (s.withMatrix x).settings = s.settings := rfl
@[simp] theorem State.withMatrix_seq (s : State) (x : Matrix) : (s.withMatrix x).seq = s.seq := rfl
@[simp] theorem State.withMatrix_queue (s : State) (x : Matrix) : (s.withMatrix x).queue = s.queue := rfl
@[simp] theorem State.withMatrix_stream (s : State) (x : Matrix) : (s.withMatrix x).stream = s.stream := rfl
@[simp] theorem State.withMatrix_limit (s : State) (x : Matrix) : (s.withMatrix x).limit = s.limit := rfl
@[simp] theorem State.withMatrix_events (s : State) (x : Matrix) : (s.withMatrix x).events = s.events := rfl
@[simp] theorem State.withMatrix_link (s : State) (x : Matrix) : (s.withMatrix x).link = s.link := rfl
@[simp] theorem State.withMatrix_pending (s : State) (x : Matrix) : (s.withMatrix x).pending = s.pending := rfl

@[simp] theorem State.withRail_pins (s : State) (x : Rail) : (s.withRail x).pins = s.pins := rfl
@[simp] theorem State.withRail_table (s : State) (x : Rail) : (s.withRail x).table = s.table := rfl
@[simp] theorem State.withRail_conv (s : State) (x : Rail) : (s.withRail x).conv = s.conv := rfl
@[simp] theorem State.withRail_matrix (s : State) (x : Rail) : (s.withRail x).matrix = s.matrix := rfl
@[simp] theorem State.withRail_rail (s : State) (x : Rail) : (s.withRail x).rail = x := rfl
@[simp] theorem State.withRail_ranging (s : State) (x : Rail) : (s.withRail x).ranging = s.ranging := rfl
@[simp] theorem State.withRail_list (s : State) (x : Rail) : (s.withRail x).list = s.list := rfl
@[simp] theorem State.withRail_settings (s : State) (x : Rail) : (s.withRail x).settings = s.settings := rfl
@[simp] theorem State.withRail_seq (s : State) (x : Rail) : (s.withRail x).seq = s.seq := rfl
@[simp] theorem State.withRail_queue (s : State) (x : Rail) : (s.withRail x).queue = s.queue := rfl
@[simp] theorem State.withRail_stream (s : State) (x : Rail) : (s.withRail x).stream = s.stream := rfl
@[simp] theorem State.withRail_limit (s : State) (x : Rail) : (s.withRail x).limit = s.limit := rfl
@[simp] theorem State.withRail_events (s : State) (x : Rail) : (s.withRail x).events = s.events := rfl
@[simp] theorem State.withRail_link (s : State) (x : Rail) : (s.withRail x).link = s.link := rfl
@[simp] theorem State.withRail_pending (s : State) (x : Rail) : (s.withRail x).pending = s.pending := rfl

@[simp] theorem State.withRanging_pins (s : State) (x : Ranging) : (s.withRanging x).pins = s.pins := rfl
@[simp] theorem State.withRanging_table (s : State) (x : Ranging) : (s.withRanging x).table = s.table := rfl
@[simp] theorem State.withRanging_conv (s : State) (x : Ranging) : (s.withRanging x).conv = s.conv := rfl
@[simp] theorem State.withRanging_matrix (s : State) (x : Ranging) : (s.withRanging x).matrix = s.matrix := rfl
@[simp] theorem State.withRanging_rail (s : State) (x : Ranging) : (s.withRanging x).rail = s.rail := rfl
@[simp] theorem State.withRanging_ranging (s : State) (x : Ranging) : (s.withRanging x).ranging = x := rfl
@[simp] theorem State.withRanging_list (s : State) (x : Ranging) : (s.withRanging x).list = s.list := rfl
@[simp] theorem State.withRanging_settings (s : State) (x : Ranging) : (s.withRanging x).settings = s.settings := rfl
@[simp] theorem State.withRanging_seq (s : State) (x : Ranging) : (s.withRanging x).seq = s.seq := rfl
@[simp] theorem State.withRanging_queue (s : State) (x : Ranging) : (s.withRanging x).queue = s.queue := rfl
@[simp] theorem State.withRanging_stream (s : State) (x : Ranging) : (s.withRanging x).stream = s.stream := rfl
@[simp] theorem State.withRanging_limit (s : State) (x : Ranging) : (s.withRanging x).limit = s.limit := rfl
@[simp] theorem State.withRanging_events (s : State) (x : Ranging) : (s.withRanging x).events = s.events := rfl
@[simp] theorem State.withRanging_link (s : State) (x : Ranging) : (s.withRanging x).link = s.link := rfl
@[simp] theorem State.withRanging_pending (s : State) (x : Ranging) : (s.withRanging x).pending = s.pending := rfl

@[simp] theorem State.withList_pins (s : State) (x : List Step) : (s.withList x).pins = s.pins := rfl
@[simp] theorem State.withList_table (s : State) (x : List Step) : (s.withList x).table = s.table := rfl
@[simp] theorem State.withList_conv (s : State) (x : List Step) : (s.withList x).conv = s.conv := rfl
@[simp] theorem State.withList_matrix (s : State) (x : List Step) : (s.withList x).matrix = s.matrix := rfl
@[simp] theorem State.withList_rail (s : State) (x : List Step) : (s.withList x).rail = s.rail := rfl
@[simp] theorem State.withList_ranging (s : State) (x : List Step) : (s.withList x).ranging = s.ranging := rfl
@[simp] theorem State.withList_list (s : State) (x : List Step) : (s.withList x).list = x := rfl
@[simp] theorem State.withList_settings (s : State) (x : List Step) : (s.withList x).settings = s.settings := rfl
@[simp] theorem State.withList_seq (s : State) (x : List Step) : (s.withList x).seq = s.seq := rfl
@[simp] theorem State.withList_queue (s : State) (x : List Step) : (s.withList x).queue = s.queue := rfl
@[simp] theorem State.withList_stream (s : State) (x : List Step) : (s.withList x).stream = s.stream := rfl
@[simp] theorem State.withList_limit (s : State) (x : List Step) : (s.withList x).limit = s.limit := rfl
@[simp] theorem State.withList_events (s : State) (x : List Step) : (s.withList x).events = s.events := rfl
@[simp] theorem State.withList_link (s : State) (x : List Step) : (s.withList x).link = s.link := rfl
@[simp] theorem State.withList_pending (s : State) (x : List Step) : (s.withList x).pending = s.pending := rfl

@[simp] theorem State.withSettings_pins (s : State) (x : Settings) : (s.withSettings x).pins = s.pins := rfl
@[simp] theorem State.withSettings_table (s : State) (x : Settings) : (s.withSettings x).table = s.table := rfl
@[simp] theorem State.withSettings_conv (s : State) (x : Settings) : (s.withSettings x).conv = s.conv := rfl
@[simp] theorem State.withSettings_matrix (s : State) (x : Settings) : (s.withSettings x).matrix = s.matrix := rfl
@[simp] theorem State.withSettings_rail (s : State) (x : Settings) : (s.withSettings x).rail = s.rail := rfl
@[simp] theorem State.withSettings_ranging (s : State) (x : Settings) : (s.withSettings x).ranging = s.ranging := rfl
@[simp] theorem State.withSettings_list (s : State) (x : Settings) : (s.withSettings x).list = s.list := rfl
@[simp] theorem State.withSettings_settings (s : State) (x : Settings) : (s.withSettings x).settings = x := rfl
@[simp] theorem State.withSettings_seq (s : State) (x : Settings) : (s.withSettings x).seq = s.seq := rfl
@[simp] theorem State.withSettings_queue (s : State) (x : Settings) : (s.withSettings x).queue = s.queue := rfl
@[simp] theorem State.withSettings_stream (s : State) (x : Settings) : (s.withSettings x).stream = s.stream := rfl
@[simp] theorem State.withSettings_limit (s : State) (x : Settings) : (s.withSettings x).limit = s.limit := rfl
@[simp] theorem State.withSettings_events (s : State) (x : Settings) : (s.withSettings x).events = s.events := rfl
@[simp] theorem State.withSettings_link (s : State) (x : Settings) : (s.withSettings x).link = s.link := rfl
@[simp] theorem State.withSettings_pending (s : State) (x : Settings) : (s.withSettings x).pending = s.pending := rfl

@[simp] theorem State.withSeq_pins (s : State) (x : Sequencer) : (s.withSeq x).pins = s.pins := rfl
@[simp] theorem State.withSeq_table (s : State) (x : Sequencer) : (s.withSeq x).table = s.table := rfl
@[simp] theorem State.withSeq_conv (s : State) (x : Sequencer) : (s.withSeq x).conv = s.conv := rfl
@[simp] theorem State.withSeq_matrix (s : State) (x : Sequencer) : (s.withSeq x).matrix = s.matrix := rfl
@[simp] theorem State.withSeq_rail (s : State) (x : Sequencer) : (s.withSeq x).rail = s.rail := rfl
@[simp] theorem State.withSeq_ranging (s : State) (x : Sequencer) : (s.withSeq x).ranging = s.ranging := rfl
@[simp] theorem State.withSeq_list (s : State) (x : Sequencer) : (s.withSeq x).list = s.list := rfl
@[simp] theorem State.withSeq_settings (s : State) (x : Sequencer) : (s.withSeq x).settings = s.settings := rfl
@[simp] theorem State.withSeq_seq (s : State) (x : Sequencer) : (s.withSeq x).seq = x := rfl
@[simp] theorem State.withSeq_queue (s : State) (x : Sequencer) : (s.withSeq x).queue = s.queue := rfl
@[simp] theorem State.withSeq_stream (s : State) (x : Sequencer) : (s.withSeq x).stream = s.stream := rfl
@[simp] theorem State.withSeq_limit (s : State) (x : Sequencer) : (s.withSeq x).limit = s.limit := rfl
@[simp] theorem State.withSeq_events (s : State) (x : Sequencer) : (s.withSeq x).events = s.events := rfl
@[simp] theorem State.withSeq_link (s : State) (x : Sequencer) : (s.withSeq x).link = s.link := rfl
@[simp] theorem State.withSeq_pending (s : State) (x : Sequencer) : (s.withSeq x).pending = s.pending := rfl

@[simp] theorem State.withQueue_pins (s : State) (x : ResultQueue) : (s.withQueue x).pins = s.pins := rfl
@[simp] theorem State.withQueue_table (s : State) (x : ResultQueue) : (s.withQueue x).table = s.table := rfl
@[simp] theorem State.withQueue_conv (s : State) (x : ResultQueue) : (s.withQueue x).conv = s.conv := rfl
@[simp] theorem State.withQueue_matrix (s : State) (x : ResultQueue) : (s.withQueue x).matrix = s.matrix := rfl
@[simp] theorem State.withQueue_rail (s : State) (x : ResultQueue) : (s.withQueue x).rail = s.rail := rfl
@[simp] theorem State.withQueue_ranging (s : State) (x : ResultQueue) : (s.withQueue x).ranging = s.ranging := rfl
@[simp] theorem State.withQueue_list (s : State) (x : ResultQueue) : (s.withQueue x).list = s.list := rfl
@[simp] theorem State.withQueue_settings (s : State) (x : ResultQueue) : (s.withQueue x).settings = s.settings := rfl
@[simp] theorem State.withQueue_seq (s : State) (x : ResultQueue) : (s.withQueue x).seq = s.seq := rfl
@[simp] theorem State.withQueue_queue (s : State) (x : ResultQueue) : (s.withQueue x).queue = x := rfl
@[simp] theorem State.withQueue_stream (s : State) (x : ResultQueue) : (s.withQueue x).stream = s.stream := rfl
@[simp] theorem State.withQueue_limit (s : State) (x : ResultQueue) : (s.withQueue x).limit = s.limit := rfl
@[simp] theorem State.withQueue_events (s : State) (x : ResultQueue) : (s.withQueue x).events = s.events := rfl
@[simp] theorem State.withQueue_link (s : State) (x : ResultQueue) : (s.withQueue x).link = s.link := rfl
@[simp] theorem State.withQueue_pending (s : State) (x : ResultQueue) : (s.withQueue x).pending = s.pending := rfl

@[simp] theorem State.withStream_pins (s : State) (x : Stream) : (s.withStream x).pins = s.pins := rfl
@[simp] theorem State.withStream_table (s : State) (x : Stream) : (s.withStream x).table = s.table := rfl
@[simp] theorem State.withStream_conv (s : State) (x : Stream) : (s.withStream x).conv = s.conv := rfl
@[simp] theorem State.withStream_matrix (s : State) (x : Stream) : (s.withStream x).matrix = s.matrix := rfl
@[simp] theorem State.withStream_rail (s : State) (x : Stream) : (s.withStream x).rail = s.rail := rfl
@[simp] theorem State.withStream_ranging (s : State) (x : Stream) : (s.withStream x).ranging = s.ranging := rfl
@[simp] theorem State.withStream_list (s : State) (x : Stream) : (s.withStream x).list = s.list := rfl
@[simp] theorem State.withStream_settings (s : State) (x : Stream) : (s.withStream x).settings = s.settings := rfl
@[simp] theorem State.withStream_seq (s : State) (x : Stream) : (s.withStream x).seq = s.seq := rfl
@[simp] theorem State.withStream_queue (s : State) (x : Stream) : (s.withStream x).queue = s.queue := rfl
@[simp] theorem State.withStream_stream (s : State) (x : Stream) : (s.withStream x).stream = x := rfl
@[simp] theorem State.withStream_limit (s : State) (x : Stream) : (s.withStream x).limit = s.limit := rfl
@[simp] theorem State.withStream_events (s : State) (x : Stream) : (s.withStream x).events = s.events := rfl
@[simp] theorem State.withStream_link (s : State) (x : Stream) : (s.withStream x).link = s.link := rfl
@[simp] theorem State.withStream_pending (s : State) (x : Stream) : (s.withStream x).pending = s.pending := rfl

@[simp] theorem State.withLimit_pins (s : State) (x : LimitMonitor) : (s.withLimit x).pins = s.pins := rfl
@[simp] theorem State.withLimit_table (s : State) (x : LimitMonitor) : (s.withLimit x).table = s.table := rfl
@[simp] theorem State.withLimit_conv (s : State) (x : LimitMonitor) : (s.withLimit x).conv = s.conv := rfl
@[simp] theorem State.withLimit_matrix (s : State) (x : LimitMonitor) : (s.withLimit x).matrix = s.matrix := rfl
@[simp] theorem State.withLimit_rail (s : State) (x : LimitMonitor) : (s.withLimit x).rail = s.rail := rfl
@[simp] theorem State.withLimit_ranging (s : State) (x : LimitMonitor) : (s.withLimit x).ranging = s.ranging := rfl
@[simp] theorem State.withLimit_list (s : State) (x : LimitMonitor) : (s.withLimit x).list = s.list := rfl
@[simp] theorem State.withLimit_settings (s : State) (x : LimitMonitor) : (s.withLimit x).settings = s.settings := rfl
@[simp] theorem State.withLimit_seq (s : State) (x : LimitMonitor) : (s.withLimit x).seq = s.seq := rfl
@[simp] theorem State.withLimit_queue (s : State) (x : LimitMonitor) : (s.withLimit x).queue = s.queue := rfl
@[simp] theorem State.withLimit_stream (s : State) (x : LimitMonitor) : (s.withLimit x).stream = s.stream := rfl
@[simp] theorem State.withLimit_limit (s : State) (x : LimitMonitor) : (s.withLimit x).limit = x := rfl
@[simp] theorem State.withLimit_events (s : State) (x : LimitMonitor) : (s.withLimit x).events = s.events := rfl
@[simp] theorem State.withLimit_link (s : State) (x : LimitMonitor) : (s.withLimit x).link = s.link := rfl
@[simp] theorem State.withLimit_pending (s : State) (x : LimitMonitor) : (s.withLimit x).pending = s.pending := rfl

@[simp] theorem State.withEvents_pins (s : State) (x : EventTable) : (s.withEvents x).pins = s.pins := rfl
@[simp] theorem State.withEvents_table (s : State) (x : EventTable) : (s.withEvents x).table = s.table := rfl
@[simp] theorem State.withEvents_conv (s : State) (x : EventTable) : (s.withEvents x).conv = s.conv := rfl
@[simp] theorem State.withEvents_matrix (s : State) (x : EventTable) : (s.withEvents x).matrix = s.matrix := rfl
@[simp] theorem State.withEvents_rail (s : State) (x : EventTable) : (s.withEvents x).rail = s.rail := rfl
@[simp] theorem State.withEvents_ranging (s : State) (x : EventTable) : (s.withEvents x).ranging = s.ranging := rfl
@[simp] theorem State.withEvents_list (s : State) (x : EventTable) : (s.withEvents x).list = s.list := rfl
@[simp] theorem State.withEvents_settings (s : State) (x : EventTable) : (s.withEvents x).settings = s.settings := rfl
@[simp] theorem State.withEvents_seq (s : State) (x : EventTable) : (s.withEvents x).seq = s.seq := rfl
@[simp] theorem State.withEvents_queue (s : State) (x : EventTable) : (s.withEvents x).queue = s.queue := rfl
@[simp] theorem State.withEvents_stream (s : State) (x : EventTable) : (s.withEvents x).stream = s.stream := rfl
@[simp] theorem State.withEvents_limit (s : State) (x : EventTable) : (s.withEvents x).limit = s.limit := rfl
@[simp] theorem State.withEvents_events (s : State) (x : EventTable) : (s.withEvents x).events = x := rfl
@[simp] theorem State.withEvents_link (s : State) (x : EventTable) : (s.withEvents x).link = s.link := rfl
@[simp] theorem State.withEvents_pending (s : State) (x : EventTable) : (s.withEvents x).pending = s.pending := rfl

@[simp] theorem State.withLink_pins (s : State) (x : Link) : (s.withLink x).pins = s.pins := rfl
@[simp] theorem State.withLink_table (s : State) (x : Link) : (s.withLink x).table = s.table := rfl
@[simp] theorem State.withLink_conv (s : State) (x : Link) : (s.withLink x).conv = s.conv := rfl
@[simp] theorem State.withLink_matrix (s : State) (x : Link) : (s.withLink x).matrix = s.matrix := rfl
@[simp] theorem State.withLink_rail (s : State) (x : Link) : (s.withLink x).rail = s.rail := rfl
@[simp] theorem State.withLink_ranging (s : State) (x : Link) : (s.withLink x).ranging = s.ranging := rfl
@[simp] theorem State.withLink_list (s : State) (x : Link) : (s.withLink x).list = s.list := rfl
@[simp] theorem State.withLink_settings (s : State) (x : Link) : (s.withLink x).settings = s.settings := rfl
@[simp] theorem State.withLink_seq (s : State) (x : Link) : (s.withLink x).seq = s.seq := rfl
@[simp] theorem State.withLink_queue (s : State) (x : Link) : (s.withLink x).queue = s.queue := rfl
@[simp] theorem State.withLink_stream (s : State) (x : Link) : (s.withLink x).stream = s.stream := rfl
@[simp] theorem State.withLink_limit (s : State) (x : Link) : (s.withLink x).limit = s.limit := rfl
@[simp] theorem State.withLink_events (s : State) (x : Link) : (s.withLink x).events = s.events := rfl
@[simp] theorem State.withLink_link (s : State) (x : Link) : (s.withLink x).link = x := rfl
@[simp] theorem State.withLink_pending (s : State) (x : Link) : (s.withLink x).pending = s.pending := rfl

@[simp] theorem State.withPending_pins (s : State) (x : List Instr) : (s.withPending x).pins = s.pins := rfl
@[simp] theorem State.withPending_table (s : State) (x : List Instr) : (s.withPending x).table = s.table := rfl
@[simp] theorem State.withPending_conv (s : State) (x : List Instr) : (s.withPending x).conv = s.conv := rfl
@[simp] theorem State.withPending_matrix (s : State) (x : List Instr) : (s.withPending x).matrix = s.matrix := rfl
@[simp] theorem State.withPending_rail (s : State) (x : List Instr) : (s.withPending x).rail = s.rail := rfl
@[simp] theorem State.withPending_ranging (s : State) (x : List Instr) : (s.withPending x).ranging = s.ranging := rfl
@[simp] theorem State.withPending_list (s : State) (x : List Instr) : (s.withPending x).list = s.list := rfl
@[simp] theorem State.withPending_settings (s : State) (x : List Instr) : (s.withPending x).settings = s.settings := rfl
@[simp] theorem State.withPending_seq (s : State) (x : List Instr) : (s.withPending x).seq = s.seq := rfl
@[simp] theorem State.withPending_queue (s : State) (x : List Instr) : (s.withPending x).queue = s.queue := rfl
@[simp] theorem State.withPending_stream (s : State) (x : List Instr) : (s.withPending x).stream = s.stream := rfl
@[simp] theorem State.withPending_limit (s : State) (x : List Instr) : (s.withPending x).limit = s.limit := rfl
@[simp] theorem State.withPending_events (s : State) (x : List Instr) : (s.withPending x).events = s.events := rfl
@[simp] theorem State.withPending_link (s : State) (x : List Instr) : (s.withPending x).link = s.link := rfl
@[simp] theorem State.withPending_pending (s : State) (x : List Instr) : (s.withPending x).pending = x := rfl

/-! Replacing a block by what it already is changes nothing. -/

@[simp] theorem State.withPins_self (s : State) : s.withPins s.pins = s := rfl
@[simp] theorem State.withTable_self (s : State) : s.withTable s.table = s := rfl
@[simp] theorem State.withConv_self (s : State) : s.withConv s.conv = s := rfl
@[simp] theorem State.withMatrix_self (s : State) : s.withMatrix s.matrix = s := rfl
@[simp] theorem State.withRail_self (s : State) : s.withRail s.rail = s := rfl
@[simp] theorem State.withRanging_self (s : State) : s.withRanging s.ranging = s := rfl
@[simp] theorem State.withList_self (s : State) : s.withList s.list = s := rfl
@[simp] theorem State.withSettings_self (s : State) : s.withSettings s.settings = s := rfl
@[simp] theorem State.withSeq_self (s : State) : s.withSeq s.seq = s := rfl
@[simp] theorem State.withQueue_self (s : State) : s.withQueue s.queue = s := rfl
@[simp] theorem State.withStream_self (s : State) : s.withStream s.stream = s := rfl
@[simp] theorem State.withLimit_self (s : State) : s.withLimit s.limit = s := rfl
@[simp] theorem State.withEvents_self (s : State) : s.withEvents s.events = s := rfl
@[simp] theorem State.withLink_self (s : State) : s.withLink s.link = s := rfl
@[simp] theorem State.withPending_self (s : State) : s.withPending s.pending = s := rfl

end Sys2Proof.Machine
end

