-- ==== Sys2Proof/Laws/Ops.lean ====
section
/-! SUPPORT. What the shared operations of Machine/Ops.lean and Machine/Sequencer.lean can do, one lemma each: the shapes
of their results, and the blocks that the whole sample loop never reaches. -/

namespace Sys2Proof.Machine

/-! ## The small requests of neighbouring blocks -/

@[simp] theorem State.openMatrix_eq (s : State) : s.openMatrix = s.withMatrix .opened := rfl
@[simp] theorem State.abortConversion_eq (s : State) : s.abortConversion = s.withConv .idle := rfl
@[simp] theorem State.dropSample_eq (s : State) : s.dropSample = s.withRanging .dropped := rfl
@[simp] theorem State.setChannel_eq (n : Fin 24) (c : Channel) (s : State) :
    s.setChannel n c = s.withTable (s.table.set n.val c) := rfl
@[simp] theorem State.raise_eq (k : EventKind) (d : Word16) (s : State) :
    s.raise k d = s.withEvents (s.events.raise k d) := rfl

/-! ## The event table -/

/-- Every kind is one of the nine (R159). -/
@[simp] theorem mem_eventKinds (k : EventKind) : k ∈ eventKinds := by cases k <;> decide

@[simp] theorem EventTable.get_set_self (t : EventTable) (k : EventKind) (e : EventEntry) : (t.set k e).get k = e := by
  cases k <;> rfl

theorem EventTable.get_set_of_ne (t : EventTable) {j k : EventKind} (h : j ≠ k) (e : EventEntry) :
    (t.set k e).get j = t.get j := by
  cases j <;> cases k <;> first | rfl | exact absurd rfl h

@[simp] theorem EventTable.set_subscription (t : EventTable) (k : EventKind) (e : EventEntry) :
    (t.set k e).subscription = t.subscription := by cases k <;> rfl

@[simp] theorem EventTable.get_mapEntries (t : EventTable) (f : EventKind → EventEntry → EventEntry) (k : EventKind) :
    (t.mapEntries f).get k = f k (t.get k) := by cases k <;> rfl

/-- Everything a raise can do (R160): nothing at a count of 255, or one entry set. -/
theorem EventTable.raise_cases (t : EventTable) (k : EventKind) (d : Word16) :
    ((t.get k).pending = true ∧ 255 ≤ (t.get k).count ∧ t.raise k d = t)
      ∨ ((t.get k).pending = true ∧ (t.get k).count < 255
          ∧ t.raise k d = t.set k { t.get k with count := (t.get k).count + 1 })
      ∨ ((t.get k).pending = false
          ∧ t.raise k d = t.set k { pending := true, count := 1, detail := d, due := t.subscribed k }) := by
  cases hp : (t.get k).pending
  · exact .inr (.inr ⟨rfl, by simp [EventTable.raise, hp]⟩)
  · by_cases hc : (t.get k).count < 255
    · exact .inr (.inl ⟨rfl, hc, by simp [EventTable.raise, hp, hc]⟩)
    · exact .inl ⟨rfl, by omega, by simp [EventTable.raise, hp, hc]⟩

/-! ## The converter, the matrix and the records -/

/-- Everything a start request can do (R24, R25): nothing, or the converter enters ZERO for the channel being measured. -/
theorem State.startConversion_cases (s : State) :
    s.startConversion = s
      ∨ ∃ st, s.currentStep = some st ∧ s.conv.phase = .idle ∧ s.matrix.phase = .connected
          ∧ (s.seq.scan = .running ∨ s.seq.scan = .pausing)
          ∧ s.startConversion = s.withConv { Converter.idle with
              phase := .zero, function := some s.table[st.channel].function, mode := some s.table[st.channel].mode } := by
  unfold State.startConversion
  cases hst : s.currentStep with
  | none => exact .inl rfl
  | some st =>
    dsimp only
    split
    · next h => exact .inr ⟨st, rfl, h.1, h.2.1, h.2.2, rfl⟩
    · exact .inl rfl

/-- Everything a connect request can do (R42, R43, R45). -/
theorem State.connect_cases (t : Target) (s : State) :
    s.connect t = s
      ∨ (s.rail.state = .ready ∧ s.connect t = s.withMatrix (.breakTo t))
      ∨ (s.rail.state = .ready ∧ s.matrix.phase = .connected ∧ s.matrix.channel = some t.channel
          ∧ s.matrix.selection = some (t.function, t.range) ∧ s.connect t = s.startConversion) := by
  unfold State.connect
  by_cases hr : s.rail.state = .ready
  · simp only [hr, if_true]
    cases hp : s.matrix.phase <;> dsimp only
    · exact .inr (.inl ⟨trivial, rfl⟩)
    · split
      · exact .inl rfl
      · exact .inr (.inl ⟨trivial, rfl⟩)
    · split
      · exact .inl rfl
      · exact .inr (.inl ⟨trivial, rfl⟩)
    · split
      · next h => exact .inr (.inr ⟨trivial, rfl, h.1, h.2, rfl⟩)
      · exact .inr (.inl ⟨trivial, rfl⟩)
  · rw [if_neg hr]; exact .inl rfl

/-- Everything an admission can do (R112 to R115). -/
theorem State.admitRecord_cases (r : Record) (s : State) :
    (s.queue.list.length < Config.queueDepth ∧ s.admitRecord r = (.goOn, s.withQueue (s.queue.append r)))
      ∨ (Config.queueDepth ≤ s.queue.list.length ∧ s.settings.policy = .stall
          ∧ s.admitRecord r = (.hold, s.withQueue { s.queue with staged := some r }))
      ∨ (Config.queueDepth ≤ s.queue.list.length ∧ s.admitRecord r = (.goOn, s.raise .queueLoss r.seq))
      ∨ (∃ lost, Config.queueDepth ≤ s.queue.list.length ∧ s.settings.policy = .dropOldest
          ∧ s.queue.oldestFresh = some lost
          ∧ s.admitRecord r = (.goOn, (s.withQueue (s.queue.dropOldestFresh.append r)).raise .queueLoss lost.seq)) := by
  unfold State.admitRecord
  by_cases hl : s.queue.list.length < Config.queueDepth
  · exact .inl ⟨hl, if_pos hl⟩
  · rw [if_neg hl]
    have hge : Config.queueDepth ≤ s.queue.list.length := by omega
    cases hp : s.settings.policy <;> dsimp only
    · exact .inr (.inl ⟨hge, rfl, rfl⟩)
    · cases hf : s.queue.oldestFresh with
      | none => exact .inr (.inr (.inl ⟨hge, rfl⟩))
      | some lost => exact .inr (.inr (.inr ⟨lost, hge, rfl, rfl, rfl⟩))
    · exact .inr (.inr (.inl ⟨hge, rfl⟩))

/-- Everything an evaluation can do (R145, R147): the record with or without its TRIP flag, and no change, a trip, or a
return to CLEAR. -/
theorem State.evaluate_cases (r : Record) (s : State) :
    ((s.evaluate r).1 = r ∨ (s.evaluate r).1 = { r with flags := { r.flags with trip := true } })
      ∧ ((s.evaluate r).2 = s
        ∨ (s.table[r.channel].trip = .clear
            ∧ (s.evaluate r).2 = (((s.setChannel r.channel { s.table[r.channel] with trip := .tripped }).withLimit
                { s.limit with latch := true }).updateLine).raise .trip (BitVec.ofNat 16 r.channel.val))
        ∨ (s.table[r.channel].trip = .tripped
            ∧ (s.evaluate r).2 = ((s.setChannel r.channel { s.table[r.channel] with trip := .clear }).updateLine).raise
                .tripCleared (BitVec.ofNat 16 r.channel.val))) := by
  unfold State.evaluate
  dsimp only
  split
  · split <;> (refine ⟨?_, ?_⟩)
    · exact .inr rfl
    · exact .inr (.inl ⟨‹_›, rfl⟩)
    all_goals first | exact .inl rfl | exact .inr rfl | exact .inr (.inr ⟨‹_›, rfl⟩)
  · exact ⟨.inl rfl, .inl rfl⟩
  · exact ⟨.inl rfl, .inl rfl⟩

/-! ## What the sample loop never reaches -/

/-- Two states that agree on the pins, the scan list, the scan settings, the stream, the link and the waiting commands:
all that the sample loop, range control and the scan's own moves leave alone. -/
structure SameAround (s t : State) : Prop where
  pins : t.pins = s.pins
  list : t.list = s.list
  settings : t.settings = s.settings
  stream : t.stream = s.stream
  link : t.link = s.link
  pending : t.pending = s.pending

theorem SameAround.refl (s : State) : SameAround s s := ⟨rfl, rfl, rfl, rfl, rfl, rfl⟩

theorem SameAround.trans {s t u : State} (h : SameAround s t) (k : SameAround t u) : SameAround s u :=
  ⟨k.pins.trans h.pins, k.list.trans h.list, k.settings.trans h.settings, k.stream.trans h.stream, k.link.trans h.link,
   k.pending.trans h.pending⟩

/-- The same, with the later part first. -/
theorem SameAround.after {s t u : State} (k : SameAround t u) (h : SameAround s t) : SameAround s u := h.trans k

theorem State.startConversion_around (s : State) : SameAround s s.startConversion := by
  rcases s.startConversion_cases with h | ⟨st, -, -, -, -, h⟩ <;> rw [h] <;> exact ⟨rfl, rfl, rfl, rfl, rfl, rfl⟩

theorem State.connect_around (t : Target) (s : State) : SameAround s (s.connect t) := by
  rcases s.connect_cases t with h | ⟨-, h⟩ | ⟨-, -, -, -, h⟩ <;> rw [h]
  · exact .refl s
  · exact ⟨rfl, rfl, rfl, rfl, rfl, rfl⟩
  · exact s.startConversion_around

theorem State.admitRecord_around (r : Record) (s : State) : SameAround s (s.admitRecord r).2 := by
  rcases s.admitRecord_cases r with ⟨-, h⟩ | ⟨-, -, h⟩ | ⟨-, h⟩ | ⟨_, -, -, -, h⟩ <;> rw [h] <;>
    exact ⟨rfl, rfl, rfl, rfl, rfl, rfl⟩

theorem State.evaluate_around (r : Record) (s : State) : SameAround s (s.evaluate r).2 := by
  rcases (s.evaluate_cases r).2 with h | ⟨-, h⟩ | ⟨-, h⟩ <;> rw [h] <;> exact ⟨rfl, rfl, rfl, rfl, rfl, rfl⟩

theorem State.produce_around (draft : Record) (s : State) : SameAround s (s.produce draft).2 :=
  have numbered : SameAround s (s.assign draft).2 := ⟨rfl, rfl, rfl, rfl, rfl, rfl⟩
  (numbered.trans (State.evaluate_around _ _)).trans (State.admitRecord_around _ _)

theorem State.completeStep_around (st : Step) (s : State) : SameAround s (s.completeStep st) := by
  unfold State.completeStep; dsimp only; split <;> exact ⟨rfl, rfl, rfl, rfl, rfl, rfl⟩

theorem State.endPass_around (s : State) : SameAround s s.endPass := by
  unfold State.endPass; dsimp only; split
  · exact ⟨rfl, rfl, rfl, rfl, rfl, rfl⟩
  · split <;> exact ⟨rfl, rfl, rfl, rfl, rfl, rfl⟩

theorem State.beginSample_around (st : Step) (s : State) : SameAround s (s.beginSample st) :=
  SameAround.after (State.connect_around _ _) ⟨rfl, rfl, rfl, rfl, rfl, rfl⟩

theorem startSteps_around (steps : List Step) : ∀ s : State, SameAround s (startSteps steps s) := by
  induction steps with
  | nil => exact fun s => s.endPass_around
  | cons st rest ih =>
    intro s
    unfold startSteps
    split
    · exact SameAround.after (State.beginSample_around _ _) ⟨rfl, rfl, rfl, rfl, rfl, rfl⟩
    · dsimp only
      have made : SameAround s (((s.withSeq { s.seq with sample := 0 }).produce
          ((s.withSeq { s.seq with sample := 0 }).skippedRecord st)).2.completeStep st) :=
        (State.completeStep_around _ _).after
          ((State.produce_around _ (s.withSeq { s.seq with sample := 0 })).after ⟨rfl, rfl, rfl, rfl, rfl, rfl⟩)
      split
      · exact made.trans ⟨rfl, rfl, rfl, rfl, rfl, rfl⟩
      · exact SameAround.after (ih _) (made.trans ⟨rfl, rfl, rfl, rfl, rfl, rfl⟩)

theorem State.takeContinuation_around (c : Continuation) (s : State) : SameAround s (s.takeContinuation c) := by
  unfold State.takeContinuation
  cases c <;> dsimp only
  · split
    · exact .refl s
    · exact SameAround.after (State.connect_around _ _) ⟨rfl, rfl, rfl, rfl, rfl, rfl⟩
  · split
    · exact .refl s
    · exact SameAround.after (State.beginSample_around _ _) ⟨rfl, rfl, rfl, rfl, rfl, rfl⟩
  · exact startSteps_around _ _
  · exact SameAround.after (startSteps_around _ _) ⟨rfl, rfl, rfl, rfl, rfl, rfl⟩
  · exact s.endPass_around

theorem State.goOnWith_around (c : Continuation) (s : State) : SameAround s (s.goOnWith c) := by
  unfold State.goOnWith
  split
  · cases c <;> first | exact s.endPass_around | exact ⟨rfl, rfl, rfl, rfl, rfl, rfl⟩
  · exact s.takeContinuation_around c

theorem State.holdWith_around (c : Continuation) (s : State) : SameAround s (s.holdWith c) := by
  unfold State.holdWith; split <;> exact ⟨rfl, rfl, rfl, rfl, rfl, rfl⟩

theorem State.deliver_around (st : Step) (last : Bool) (draft : Record) (s : State) :
    SameAround s (s.deliver st last draft) := by
  have done : SameAround s (if last then (s.produce draft).2.completeStep st else (s.produce draft).2) := by
    split
    · exact (s.produce_around draft).trans (State.completeStep_around _ _)
    · exact s.produce_around draft
  unfold State.deliver
  dsimp only
  split
  · exact done.trans (State.goOnWith_around _ _)
  · exact done.trans (State.holdWith_around _ _)

theorem State.takeSample_around (st : Step) (a : Sample) (s : State) : SameAround s (s.takeSample st a) := by
  unfold State.takeSample
  split
  · dsimp only
    split
    · exact SameAround.after (State.goOnWith_around _ _) ⟨rfl, rfl, rfl, rfl, rfl, rfl⟩
    · exact SameAround.after (State.deliver_around _ _ _ _) ⟨rfl, rfl, rfl, rfl, rfl, rfl⟩
  · exact State.deliver_around _ _ _ _

theorem State.acceptOutcome_around (st : Step) (hunt : Bool) (o : ConvOutcome) (s : State) :
    SameAround s (s.acceptOutcome st hunt o) := by
  unfold State.acceptOutcome
  dsimp only
  refine SameAround.trans ?_ (State.takeSample_around _ _ _)
  split <;> exact ⟨rfl, rfl, rfl, rfl, rfl, rfl⟩

/-- Whatever the sequencer does with a conversion's outcome, it reaches only the measurement path, the records and their
events (R61 to R69, R88 to R96). -/
theorem State.takeOutcome_around (o : ConvOutcome) (s : State) : SameAround s (s.takeOutcome o) := by
  have judged : ∀ st, SameAround s (s.judge st o) := by
    intro st
    unfold State.judge
    split
    · split
      · exact State.acceptOutcome_around _ _ _ _
      · split
        · exact State.acceptOutcome_around _ _ _ _
        · exact SameAround.after (State.connect_around _ _) ⟨rfl, rfl, rfl, rfl, rfl, rfl⟩
    · exact State.acceptOutcome_around _ _ _ _
  unfold State.takeOutcome
  split
  · split
    · exact judged _
    · exact .refl s
  · split
    · exact judged _
    · exact .refl s
  all_goals exact .refl s

theorem State.holdOver_around (s : State) : SameAround s s.holdOver := by
  unfold State.holdOver
  split
  · exact SameAround.after (State.takeContinuation_around _ _) ⟨rfl, rfl, rfl, rfl, rfl, rfl⟩
  all_goals exact ⟨rfl, rfl, rfl, rfl, rfl, rfl⟩

/-- Everything the end of a removal can do outside the queue and the scan: nothing (R116). -/
theorem State.drain_around (removed : Nat) (s : State) : SameAround s (s.drain removed) := by
  unfold State.drain
  split
  · split
    · exact SameAround.after (State.holdOver_around _) ⟨rfl, rfl, rfl, rfl, rfl, rfl⟩
    · exact .refl s
  · exact .refl s

/-- A rewritten channel restarts at most the current step (R101, R102). -/
theorem State.channelChanged_around (n : Fin 24) (s : State) : SameAround s (s.channelChanged n) := by
  unfold State.channelChanged
  split
  · exact .refl s
  · split
    · split
      · exact SameAround.after (State.takeContinuation_around _ _) ⟨rfl, rfl, rfl, rfl, rfl, rfl⟩
      · exact ⟨rfl, rfl, rfl, rfl, rfl, rfl⟩
      · split
        · split
          · exact ⟨rfl, rfl, rfl, rfl, rfl, rfl⟩
          · exact .refl s
        · exact .refl s
      · split
        · split
          · exact ⟨rfl, rfl, rfl, rfl, rfl, rfl⟩
          · exact .refl s
        · exact .refl s
        · exact .refl s
      all_goals exact .refl s
    · exact .refl s

theorem State.stopScan_around (s : State) : SameAround s s.stopScan := by
  have discard : ∀ u : State, SameAround u u.discardStaged := by
    intro u; unfold State.discardStaged; split <;> exact ⟨rfl, rfl, rfl, rfl, rfl, rfl⟩
  have cut : SameAround s (s.abortConversion.openMatrix.discardStaged.dropSample) :=
    have first : SameAround s s.abortConversion.openMatrix := ⟨rfl, rfl, rfl, rfl, rfl, rfl⟩
    have last : SameAround s.abortConversion.openMatrix.discardStaged s.abortConversion.openMatrix.discardStaged.dropSample :=
      ⟨rfl, rfl, rfl, rfl, rfl, rfl⟩
    (first.trans (discard _)).trans last
  unfold State.stopScan
  split
  · exact .refl s
  all_goals exact cut.trans ⟨rfl, rfl, rfl, rfl, rfl, rfl⟩

theorem State.railFault_around (cause : RailCause) (s : State) : SameAround s (s.railFault cause) := by
  unfold State.railFault; dsimp only; split <;> exact ⟨rfl, rfl, rfl, rfl, rfl, rfl⟩

theorem State.triggerLatch_around (s : State) : SameAround s s.triggerLatch := by
  unfold State.triggerLatch; split
  · exact .refl s
  all_goals (split <;> exact ⟨rfl, rfl, rfl, rfl, rfl, rfl⟩)

/-! ## Taking a continuation neither reads nor writes the link -/

theorem State.startConversion_withLink (s : State) (l : Link) :
    (s.withLink l).startConversion = s.startConversion.withLink l := by
  unfold State.startConversion
  show (match s.currentStep with | none => _ | some st => _) = _
  cases s.currentStep with
  | none => rfl
  | some st =>
    show (if s.conv.phase = .idle ∧ s.matrix.phase = .connected ∧ (s.seq.scan = .running ∨ s.seq.scan = .pausing) then _
      else _) = State.withLink (if _ then _ else _) l
    split <;> rfl

theorem State.connect_withLink (t : Target) (s : State) (l : Link) : (s.withLink l).connect t = (s.connect t).withLink l := by
  unfold State.connect
  show (if s.rail.state = .ready then (match s.matrix.phase with | .opened => _ | .connected => _ | .breaking | .settling => _) else _) = _
  split
  · cases s.matrix.phase <;> dsimp only
    · rfl
    · show (if s.matrix.target = some t then _ else _) = _
      split <;> rfl
    · show (if s.matrix.target = some t then _ else _) = _
      split <;> rfl
    · show (if s.matrix.channel = some t.channel ∧ s.matrix.selection = some (t.function, t.range) then _ else _) = _
      split
      · exact s.startConversion_withLink l
      · rfl
  · rfl

theorem State.admitRecord_withLink (r : Record) (s : State) (l : Link) :
    (s.withLink l).admitRecord r = ((s.admitRecord r).1, (s.admitRecord r).2.withLink l) := by
  unfold State.admitRecord
  show (if s.queue.list.length < Config.queueDepth then _ else match s.settings.policy with | .stall => _ | .dropNewest => _ | .dropOldest => _) = _
  split
  · rfl
  · cases s.settings.policy <;> dsimp only
    · rfl
    · show (match s.queue.oldestFresh with | some lost => _ | none => _) = _
      cases s.queue.oldestFresh <;> rfl
    · rfl

theorem State.evaluate_withLink (r : Record) (s : State) (l : Link) :
    (s.withLink l).evaluate r = ((s.evaluate r).1, (s.evaluate r).2.withLink l) := by
  unfold State.evaluate
  dsimp only [State.withLink_table]
  split
  · split <;> rfl
  · rfl
  · rfl

theorem State.produce_withLink (draft : Record) (s : State) (l : Link) :
    (s.withLink l).produce draft = ((s.produce draft).1, (s.produce draft).2.withLink l) := by
  have e : (s.withLink l).assign draft = ((s.assign draft).1, (s.assign draft).2.withLink l) := rfl
  simp only [State.produce, e, State.evaluate_withLink, State.admitRecord_withLink]

theorem State.completeStep_withLink (st : Step) (s : State) (l : Link) :
    (s.withLink l).completeStep st = (s.completeStep st).withLink l := by
  unfold State.completeStep; dsimp only; split <;> rfl

theorem State.endPass_withLink (s : State) (l : Link) : (s.withLink l).endPass = s.endPass.withLink l := by
  unfold State.endPass
  show (if s.settings.passes ≠ 0 ∧ s.settings.passes ≤ nextPassesDone s.seq.passesDone then _
    else if s.seq.scan = .pausing then _ else _) = State.withLink (if _ then _ else if _ then _ else _) l
  split
  · rfl
  · split <;> rfl

theorem State.beginSample_withLink (st : Step) (s : State) (l : Link) :
    (s.withLink l).beginSample st = (s.beginSample st).withLink l :=
  State.connect_withLink (s.connectTarget st (s.firstRange st))
    ((s.withRanging { sampleRange := some (s.firstRange st), changes := 0, lock := s.ranging.lock }).withSeq
      { s.seq with cont := some .measure }) l

theorem startSteps_withLink (steps : List Step) (l : Link) :
    ∀ s : State, startSteps steps (s.withLink l) = (startSteps steps s).withLink l := by
  induction steps with
  | nil => exact fun s => s.endPass_withLink l
  | cons st rest ih =>
    intro s
    by_cases h : s.table[st.channel].enabled = true
    · have h' : (s.withLink l).table[st.channel].enabled = true := h
      rw [startSteps, startSteps, if_pos h, if_pos h']
      exact State.beginSample_withLink st (s.withSeq { s.seq with sample := 1 }) l
    · have h' : ¬(s.withLink l).table[st.channel].enabled = true := h
      rw [startSteps, startSteps, if_neg h, if_neg h']
      have e := State.produce_withLink ((s.withSeq { s.seq with sample := 0 }).skippedRecord st)
        (s.withSeq { s.seq with sample := 0 }) l
      let next (made : Admission × State) : State :=
        match made.1 with
        | .hold => (made.2.completeStep st).enterHeld (if rest.isEmpty then .endPass else .nextStep)
        | .goOn => startSteps rest ((made.2.completeStep st).withSeq
            { (made.2.completeStep st).seq with step := (made.2.completeStep st).seq.step + 1 })
      change next (((s.withSeq { s.seq with sample := 0 }).withLink l).produce
          ((s.withSeq { s.seq with sample := 0 }).skippedRecord st))
        = (next ((s.withSeq { s.seq with sample := 0 }).produce
          ((s.withSeq { s.seq with sample := 0 }).skippedRecord st))).withLink l
      rw [e]
      obtain ⟨a, v⟩ := (s.withSeq { s.seq with sample := 0 }).produce
          ((s.withSeq { s.seq with sample := 0 }).skippedRecord st)
      cases a <;> simp only [next, v.completeStep_withLink st l]
      · exact ih ((v.completeStep st).withSeq { (v.completeStep st).seq with step := (v.completeStep st).seq.step + 1 })
      · rfl

/-- Taking a continuation neither reads nor writes the link. -/
theorem State.takeContinuation_withLink (c : Continuation) (s : State) (l : Link) :
    (s.withLink l).takeContinuation c = (s.takeContinuation c).withLink l := by
  unfold State.takeContinuation
  cases c <;> dsimp only
  · show (match s.currentStep with | none => _ | some st => _) = _
    cases s.currentStep with
    | none => rfl
    | some st =>
      exact State.connect_withLink (s.connectTarget st (s.ranging.sampleRange.getD (s.firstRange st)))
        (s.withSeq { s.seq with cont := some .measure }) l
  · show (match s.currentStep with | none => _ | some st => _) = _
    cases s.currentStep with
    | none => rfl
    | some st => exact State.beginSample_withLink st (s.withSeq { s.seq with sample := s.seq.sample + 1 }) l
  · exact startSteps_withLink (s.list.drop s.seq.step) l s
  · exact startSteps_withLink (s.list.drop (s.seq.step + 1)) l (s.withSeq { s.seq with step := s.seq.step + 1 })
  · exact s.endPass_withLink l

/-- Taking a continuation leaves the link as it was. -/
@[simp] theorem State.takeContinuation_link (c : Continuation) (s : State) : (s.takeContinuation c).link = s.link :=
  (congrArg State.link (State.takeContinuation_withLink c s s.link) :)

end Sys2Proof.Machine
end

