-- ==== Sys2Proof/Laws/Requests.lean ====
section
/-! SUPPORT. What the processing of a request can do, said once: which frames a row takes, and the state it leaves;
and what an acknowledgement and an admission do to each other. -/

namespace Sys2Proof.Machine

/-- The effect of a command on a part that is not held in reset. -/
theorem whileLive_of_live {s : State} (h : s.pins.resetLow = false) (f : State → State) :
    whileLive s f = .next (f s) := by
  simp [whileLive, h]

/-- The effect of a command on a part that is held in reset. -/
theorem whileLive_of_reset {s : State} (h : s.pins.resetLow = true) (f : State → State) : whileLive s f = .next s := by
  simp [whileLive, h]

/-- Whatever a command answers on a live or a held part, it is a next state: the effect, or no change. -/
theorem whileLive_cases (s : State) (f : State → State) :
    (s.pins.resetLow = true ∧ whileLive s f = .next s) ∨ (s.pins.resetLow = false ∧ whileLive s f = .next (f s)) := by
  cases h : s.pins.resetLow
  · exact .inr ⟨rfl, whileLive_of_live h f⟩
  · exact .inl ⟨rfl, whileLive_of_reset h f⟩

/-- The frame the processor takes, when it can take one. -/
theorem takes_of_executes {s : State} {f : Frame} {rest : List Frame} (h : s.Executes f rest) :
    s.link.takes = some (f, rest) := by
  obtain ⟨-, hin, hroom, -, -⟩ := h
  simp [Link.takes, hin, Config.replyDepth, hroom]

/-- A frame that is executed matches no cached request. -/
theorem cached_of_executes {s : State} {f : Frame} {rest : List Frame} (h : s.Executes f rest) :
    s.link.cached f = none := by
  obtain ⟨-, -, -, -, hc⟩ := h
  cases hcache : s.link.cache with
  | none => simp [Link.cached, hcache]
  | some e => simp [Link.cached, hcache, hc e (by simp [hcache])]

/-- Everything a request row can do: either it is not this row's frame and nothing changes, or the frame is taken and
executed. -/
theorem serve_cases (kind : Byte) (row : List Byte → Bool) (run : List Byte → State → Execution) (s : State) :
    s.serve kind row run = s
      ∨ ∃ f rest, s.link.inbound = f :: rest ∧ s.link.replies.length < Config.replyDepth ∧ f.kind = kind
          ∧ f.token ≠ 0 ∧ s.link.cached f = none ∧ row f.payload = true
          ∧ s.serve kind row run = State.finishRequest f (run f.payload (s.leaveInbound rest)) := by
  unfold State.serve
  cases hin : s.link.inbound with
  | nil => left; simp [Link.takes, hin]
  | cons f rest =>
    by_cases hroom : s.link.replies.length < Config.replyDepth
    · have htakes : s.link.takes = some (f, rest) := by simp [Link.takes, hin, hroom]
      rw [htakes]
      dsimp only
      split
      · next hrow => exact .inr ⟨f, rest, rfl, hroom, hrow.1, hrow.2.1, hrow.2.2.1, hrow.2.2.2, rfl⟩
      · exact .inl rfl
    · left; simp [Link.takes, hin, hroom]

/-- A request row runs its own request. -/
theorem serve_of_executes {s : State} {kind token : Byte} {p : List Byte} {rest : List Frame}
    (h : s.Executes { kind := kind, token := token, payload := p } rest) {row : List Byte → Bool}
    (hrow : row p = true) (run : List Byte → State → Execution) :
    s.serve kind row run
      = State.finishRequest { kind := kind, token := token, payload := p } (run p (s.leaveInbound rest)) := by
  unfold State.serve
  rw [takes_of_executes h]
  exact if_pos ⟨rfl, h.2.2.2.1, cached_of_executes h, hrow⟩

/-- What a request row answers where it runs its own request. -/
theorem row_of_executes {s : State} {kind token : Byte} {p : List Byte} {rest : List Frame}
    (h : s.Executes { kind := kind, token := token, payload := p } rest) {row : List Byte → Bool}
    (hrow : row p = true) (run : List Byte → State → Execution) :
    whileLive s (State.serve kind row run)
      = .next (State.finishRequest { kind := kind, token := token, payload := p } (run p (s.leaveInbound rest))) := by
  rw [whileLive_of_live h.1, serve_of_executes h hrow]

/-- A refused request leaves the state answered and otherwise as it was (R181). -/
theorem finish_refuse (s : State) (f : Frame) (rest : List Frame) (o : ReplyOutcome) :
    State.finishRequest f (refuse o (s.leaveInbound rest)) = s.answered f rest [o.byte] := rfl

/-- A request whose effect was computed after its frame left the inbound queue leaves that effect, answered. -/
theorem finish_done (t : State) (f : Frame) (rest : List Frame) (fields : List Byte) :
    State.finishRequest f (replyDone fields (t.leaveInbound rest)) = t.answered f rest (0x00 :: fields) := rfl

/-! An acknowledgement against an admission (R140) -/

/-- An admission leaves the marked records of the list as they stand (R115, R140). -/
theorem State.admitRecord_marked (r : Record) (s : State) :
    (s.admitRecord r).2.queue.list.filter (·.sent) = s.queue.list.filter (·.sent) := by
  have drop : ∀ l : List Queued, (l.eraseP fun e => !e.sent).filter (·.sent) = l.filter (·.sent) := by
    intro l; induction l with
    | nil => rfl
    | cons e l ih => cases h : e.sent <;> simp [h, ih]
  unfold State.admitRecord
  split
  · simp [ResultQueue.append]
  · split <;> try simp [State.raise]
    split <;> simp [ResultQueue.append, ResultQueue.dropOldestFresh, drop]

/-- An acknowledgement with no staged record leaves the fresh records of the list as they stand (R137, R140). -/
theorem State.acknowledge_fresh (a : Word16) {s : State} (staged : s.queue.staged = none) :
    (s.acknowledge a).queue.list.filter (fun e => !e.sent) = s.queue.list.filter fun e => !e.sent := by
  simp [State.acknowledge, State.drain, staged, ResultQueue.ackRemoves, List.filter_filter]
  congr 1; funext e; cases e.sent <;> simp

/-- On a list with room an acknowledgement and an admission leave the same state in both orders (R112, R137, R140). -/
theorem State.acknowledge_admitRecord_comm (a : Word16) (r : Record) {s : State} (staged : s.queue.staged = none)
    (room : s.queue.list.length < Config.queueDepth) (held : s.queue.list ≠ [])
    (k : s.stream.inFlight ≤ s.queue.list.length) :
    (s.acknowledge a).admitRecord r = (.goOn, (s.admitRecord r).2.acknowledge a) := by
  have shorter := List.length_filter_le (fun e => !s.queue.ackRemoves a e) s.queue.list
  have room' : (s.queue.list.filter fun e => !s.queue.ackRemoves a e).length < Config.queueDepth := by omega
  have same : (s.queue.append r).ackRemoves a = s.queue.ackRemoves a := by
    funext e
    cases h : s.queue.list with
    | nil => exact absurd h held
    | cons x l => simp [ResultQueue.ackRemoves, ResultQueue.oldestSeq, ResultQueue.append, h]
  have stays : s.queue.ackRemoves a { record := r, sent := false } = false := by simp [ResultQueue.ackRemoves]
  have sameTake : (s.queue.append r).list.take s.stream.inFlight = s.queue.list.take s.stream.inFlight :=
    List.take_append_of_le_length k
  simp only [State.admitRecord, State.acknowledge, if_pos room, same, sameTake, State.withQueue_queue,
    State.withQueue_stream]
  simp [State.drain, ResultQueue.append, staged, room', stays, State.withQueue, State.withStream]

end Sys2Proof.Machine
end

