-- ==== Sys2Proof/Laws/Time.lean ====
section
/-! SUPPORT. What the passing of time can do, said once: which parts of each block it leaves, and that a stopped timer stays
stopped and a running one runs on. -/

namespace Sys2Proof.Machine

/-- Time moves nothing of the converter but its tick counter. -/
theorem Converter.advance_eq (n : Nat) (c : Converter) : c.advance n = { c with ticks := (c.advance n).ticks } := by
  obtain ⟨phase, ticks, function, mode, polarity, rawCount, offset, crossing⟩ := c; cases phase <;> rfl

/-- Time moves nothing of the matrix but its phase timer. -/
theorem Matrix.advance_eq (n : Nat) (m : Matrix) : m.advance n = { m with timer := (m.advance n).timer } := by
  obtain ⟨phase, channel, selection, excitation, target, timer⟩ := m; cases phase <;> rfl

/-- Time moves nothing of the sequencer but its pace timer and its clock. -/
theorem Sequencer.advance_eq (interval n : Nat) (q : Sequencer) : q.advance interval n
    = { q with paceTimer := (q.advance interval n).paceTimer, clockMs := (q.advance interval n).clockMs,
               clockTicks := (q.advance interval n).clockTicks } := by
  unfold Sequencer.advance; cases h : q.scan <;> simp

@[simp] theorem Converter.advance_phase (n : Nat) (c : Converter) : (c.advance n).phase = c.phase := by
  rw [Converter.advance_eq]
@[simp] theorem Converter.advance_function (n : Nat) (c : Converter) : (c.advance n).function = c.function := by
  rw [Converter.advance_eq]
@[simp] theorem Converter.advance_mode (n : Nat) (c : Converter) : (c.advance n).mode = c.mode := by
  rw [Converter.advance_eq]
@[simp] theorem Converter.advance_polarity (n : Nat) (c : Converter) : (c.advance n).polarity = c.polarity := by
  rw [Converter.advance_eq]
@[simp] theorem Converter.advance_rawCount (n : Nat) (c : Converter) : (c.advance n).rawCount = c.rawCount := by
  rw [Converter.advance_eq]
@[simp] theorem Converter.advance_offsetStored (n : Nat) (c : Converter) : (c.advance n).offsetStored = c.offsetStored := by
  rw [Converter.advance_eq]
@[simp] theorem Converter.advance_crossing (n : Nat) (c : Converter) : (c.advance n).crossing = c.crossing := by
  rw [Converter.advance_eq]

@[simp] theorem Matrix.advance_phase (n : Nat) (m : Matrix) : (m.advance n).phase = m.phase := by
  rw [Matrix.advance_eq]
@[simp] theorem Matrix.advance_channel (n : Nat) (m : Matrix) : (m.advance n).channel = m.channel := by
  rw [Matrix.advance_eq]
@[simp] theorem Matrix.advance_selection (n : Nat) (m : Matrix) : (m.advance n).selection = m.selection := by
  rw [Matrix.advance_eq]
@[simp] theorem Matrix.advance_excitation (n : Nat) (m : Matrix) : (m.advance n).excitation = m.excitation := by
  rw [Matrix.advance_eq]
@[simp] theorem Matrix.advance_target (n : Nat) (m : Matrix) : (m.advance n).target = m.target := by
  rw [Matrix.advance_eq]

@[simp] theorem Sequencer.advance_scan (interval n : Nat) (q : Sequencer) :
    (q.advance interval n).scan = q.scan := by rw [Sequencer.advance_eq]
@[simp] theorem Sequencer.advance_pass (interval n : Nat) (q : Sequencer) :
    (q.advance interval n).pass = q.pass := by rw [Sequencer.advance_eq]
@[simp] theorem Sequencer.advance_step (interval n : Nat) (q : Sequencer) :
    (q.advance interval n).step = q.step := by rw [Sequencer.advance_eq]
@[simp] theorem Sequencer.advance_sample (interval n : Nat) (q : Sequencer) :
    (q.advance interval n).sample = q.sample := by rw [Sequencer.advance_eq]
@[simp] theorem Sequencer.advance_passesDone (interval n : Nat) (q : Sequencer) :
    (q.advance interval n).passesDone = q.passesDone := by rw [Sequencer.advance_eq]
@[simp] theorem Sequencer.advance_cont (interval n : Nat) (q : Sequencer) :
    (q.advance interval n).cont = q.cont := by rw [Sequencer.advance_eq]
@[simp] theorem Sequencer.advance_resume (interval n : Nat) (q : Sequencer) :
    (q.advance interval n).resume = q.resume := by rw [Sequencer.advance_eq]
@[simp] theorem Sequencer.advance_acc (interval n : Nat) (q : Sequencer) :
    (q.advance interval n).acc = q.acc := by rw [Sequencer.advance_eq]
@[simp] theorem Sequencer.advance_redo (interval n : Nat) (q : Sequencer) :
    (q.advance interval n).redo = q.redo := by rw [Sequencer.advance_eq]
@[simp] theorem Sequencer.advance_paceDue (interval n : Nat) (q : Sequencer) :
    (q.advance interval n).paceDue = q.paceDue := by rw [Sequencer.advance_eq]
@[simp] theorem Sequencer.advance_passStart (interval n : Nat) (q : Sequencer) :
    (q.advance interval n).passStart = q.passStart := by rw [Sequencer.advance_eq]
@[simp] theorem Sequencer.advance_latch (interval n : Nat) (q : Sequencer) :
    (q.advance interval n).latch = q.latch := by rw [Sequencer.advance_eq]

@[simp] theorem Sequencer.advance_paceTimer (interval n : Nat) (q : Sequencer) :
    (q.advance interval n).paceTimer = q.paceTimer.map (tickTo interval n) := by
  unfold Sequencer.advance; cases h : q.scan <;> simp

@[simp] theorem State.advance_pins (n : Nat) (s : State) : (s.advance n).pins = s.pins := rfl
@[simp] theorem State.advance_table (n : Nat) (s : State) : (s.advance n).table = s.table := rfl
@[simp] theorem State.advance_ranging (n : Nat) (s : State) : (s.advance n).ranging = s.ranging := rfl
@[simp] theorem State.advance_list (n : Nat) (s : State) : (s.advance n).list = s.list := rfl
@[simp] theorem State.advance_settings (n : Nat) (s : State) : (s.advance n).settings = s.settings := rfl
@[simp] theorem State.advance_queue (n : Nat) (s : State) : (s.advance n).queue = s.queue := rfl
@[simp] theorem State.advance_limit (n : Nat) (s : State) : (s.advance n).limit = s.limit := rfl
@[simp] theorem State.advance_events (n : Nat) (s : State) : (s.advance n).events = s.events := rfl
@[simp] theorem State.advance_pending (n : Nat) (s : State) : (s.advance n).pending = s.pending := rfl

theorem State.advance_conv (n : Nat) (s : State) : (s.advance n).conv = s.conv.advance n := rfl
theorem State.advance_matrix (n : Nat) (s : State) : (s.advance n).matrix = s.matrix.advance n := rfl
theorem State.advance_rail (n : Nat) (s : State) : (s.advance n).rail = s.rail.advance n := rfl
theorem State.advance_seq (n : Nat) (s : State) : (s.advance n).seq = s.seq.advance s.settings.intervalTicks n := rfl
theorem State.advance_stream (n : Nat) (s : State) : (s.advance n).stream = s.stream.advance n := rfl
theorem State.advance_link (n : Nat) (s : State) : (s.advance n).link = s.link.advance n := rfl

@[simp] theorem Rail.advance_state (n : Nat) (r : Rail) : (r.advance n).state = r.state := rfl
@[simp] theorem Rail.advance_cause (n : Nat) (r : Rail) : (r.advance n).cause = r.cause := rfl
@[simp] theorem Stream.advance_state (n : Nat) (t : Stream) : (t.advance n).state = t.state := rfl
@[simp] theorem Stream.advance_window (n : Nat) (t : Stream) : (t.advance n).window = t.window := rfl
@[simp] theorem Stream.advance_inFlight (n : Nat) (t : Stream) : (t.advance n).inFlight = t.inFlight := rfl
@[simp] theorem Stream.advance_timeouts (n : Nat) (t : Stream) : (t.advance n).timeouts = t.timeouts := rfl
@[simp] theorem Link.advance_receiver (n : Nat) (l : Link) : (l.advance n).receiver = l.receiver := rfl
@[simp] theorem Link.advance_framingCount (n : Nat) (l : Link) : (l.advance n).framingCount = l.framingCount := rfl
@[simp] theorem Link.advance_checkCount (n : Nat) (l : Link) : (l.advance n).checkCount = l.checkCount := rfl
@[simp] theorem Link.advance_overflowCount (n : Nat) (l : Link) : (l.advance n).overflowCount = l.overflowCount := rfl
@[simp] theorem Link.advance_inbound (n : Nat) (l : Link) : (l.advance n).inbound = l.inbound := rfl
@[simp] theorem Link.advance_replies (n : Nat) (l : Link) : (l.advance n).replies = l.replies := rfl
@[simp] theorem Link.advance_cache (n : Nat) (l : Link) : (l.advance n).cache = l.cache := rfl
@[simp] theorem Link.advance_sending (n : Nat) (l : Link) : (l.advance n).sending = l.sending := rfl

@[simp] theorem Rail.advance_startTimer (n : Nat) (r : Rail) :
    (r.advance n).startTimer = r.startTimer.map (tickTo Config.startWindowTicks n) := rfl
@[simp] theorem Rail.advance_holdTimer (n : Nat) (r : Rail) :
    (r.advance n).holdTimer = r.holdTimer.map (tickTo Config.holdTicks n) := rfl
@[simp] theorem Stream.advance_timer (n : Nat) (t : Stream) :
    (t.advance n).timer = t.timer.map (tickTo Config.retransmitTicks n) := rfl
@[simp] theorem Link.advance_gapTimer (n : Nat) (l : Link) :
    (l.advance n).gapTimer = l.gapTimer.map (tickTo Config.gapTicks n) := rfl

/-- A timer never runs past its limit. -/
theorem tickTo_le {limit n t : Nat} (h : t ≤ limit) : tickTo limit n t ≤ limit := by
  unfold tickTo; split <;> omega

/-- The time left on a timer brings it to its limit. -/
theorem tickTo_left {limit t : Nat} (h : t ≤ limit) : tickTo limit (limit - t) t = limit := by
  unfold tickTo; split <;> omega

end Sys2Proof.Machine
end

