-- ==== Sys2Proof/WellFormed.lean ====
section
/-! DEFINITION. Which commands are well formed: the one operand a term could give that no input of the part is. -/

namespace Sys2Proof

/-- A resistance is zero or positive (R2: "an OHMS count is zero or positive"). The mean voltage below zero that a
point driven from outside can show is the constructor drivenAgainst, not a negative resistance. -/
def OhmsInput.WellFormed : OhmsInput → Bool
  | .resistance r => decide (0 ≤ r.num)
  | .openPoint => true
  | .drivenAgainst => true

/-- Every command is well formed but an INTEGRATE end whose resistance is negative. -/
def Instr.WellFormed : Instr → Bool
  | .integrateEnd input => input.ohms.WellFormed
  | .identify | .status | .restart | .channelSet | .channelGet | .channelOff | .listClear | .listAppend | .listRead
  | .scanSet | .start | .stop | .pause | .resume | .trigger | .fetch | .streamOn | .streamOff | .ack | .events
  | .subscribe | .modeFollow | .modeLatched | .clearLatch | .unknownKind | .badToken | .repeatCacheMatch
  | .goodCharacter _ | .damagedCharacter | .gapTimerExpiry | .sendReply | .eventReport | .resultReport | .frameSent
  | .resetNLow _ _ | .resetNHigh | .powerUp _ _ | .trigEdge | .zeroEnd | .deintegrateCrossing | .deintegrateLimit
  | .breakEnd | .settleEnd | .railInsideWindow | .startTimeout | .drop | .holdExpiry | .passStart | .paceTimerExpiry
  | .scanClockWrap | .retransmitExpiry => true

end Sys2Proof
end

