-- ==== Sys2Proof/Tests/Slice0.lean ====
section
/-! SUPPORT. The model's own tests. The expected values come from the guide's rules, tables and worked sequences, named
in each test's comment. Below them stands a witness for the hypotheses of every statement. -/

namespace Sys2Proof.Tests

open Sys2Proof.Machine

/-! ## Small states -/

/-- The next state of a command. -/
def nextOf (c : Instr) (s : State) : State :=
  match exec c s with
  | .next t => t
  | .fault _ => s
  | .refused _ => s

/-- A frame with token 11h. -/
def frame (kind : Byte) (p : List Byte) : Frame := { kind := kind, token := 0x11, payload := p }

/-- The state with one request waiting. -/
def asked (kind : Byte) (p : List Byte) (s : State) : State := s.withLink { s.link with inbound := [frame kind p] }

/-- The payload of the newest reply. -/
def lastReply (s : State) : List Byte :=
  match s.link.replies.getLast? with
  | some r => r.payload
  | none => []

/-- An enabled VOLT channel with a range setting, in NORMAL mode, settle 5 ms. -/
def volt (range : RangeSetting) (remembered : Nat) : Channel :=
  { Channel.reset with enabled := true, range := range, remembered := remembered }

/-- A step of some samples at point 0. -/
def stepOf (samples : Nat) (mean mark : Bool) : Step := { channel := 0, samples := samples, mean := mean, mark := mark }

/-- Every point on one channel record, and a list of two equal steps. -/
def rack (c : Channel) (st : Step) : State :=
  { State.reset with table := Vector.replicate 24 c, list := [st, st] }

/-- The scan in some state at sample 1 of step 0 of pass 1, with the rail READY. -/
def scanning (scan : ScanState) (c : Channel) (st : Step) : State :=
  { rack c st with
    rail := { Rail.off with state := .ready }
    seq := { Sequencer.reset with scan := scan, pass := 1, sample := 1, cont := some .measure } }

/-- DEINTEGRATE of a NORMAL VOLT conversion on a range, with a crossing to come or none. -/
def converting (crossing : Option Nat) (polarity : Polarity) : Converter :=
  { Converter.idle with phase := .deintegrate, function := some .volt, mode := some .normal, polarity := polarity,
                        offsetStored := true, crossing := crossing }

/-- The same scan with the matrix connected to point 0 on a VOLT range and its conversion in DEINTEGRATE. -/
def measuring (scan : ScanState) (c : Channel) (st : Step) (range : Nat) (crossing : Option Nat) : State :=
  { scanning scan c st with
    matrix := { Matrix.settleOn { channel := 0, function := .volt, range := range, settle := 5 } with
      phase := .connected }
    conv := converting crossing .positive
    ranging := { sampleRange := some range, changes := 0, lock := none } }

/-- A record with a sequence number. -/
def numbered (n : Nat) : Record :=
  { seq := BitVec.ofNat 16 n, pass := 1, step := 0, channel := 0, sample := 1, function := some .volt, range := 1,
    flags := RecordFlags.none, count := 2468, value := 1234000, time := 548 }

/-- Some consecutive records from a sequence number on, all with or all without the sent mark. -/
def records (first n : Nat) (sent : Bool) : List Queued :=
  (List.range n).map fun i => { record := numbered (first + i), sent := sent }

/-- The sequence numbers in the list. -/
def numbers (s : State) : List Nat := s.queue.list.map fun e => e.record.seq.toNat

/-- A queue with a list and a next sequence number. -/
def queued (list : List Queued) (staged : Option Record) (next : Nat) (s : State) : State :=
  s.withQueue { list := list, staged := staged, nextSeq := BitVec.ofNat 16 next }

/-- The stream ON with W = 4 and some records in flight. -/
def streaming (inFlight timeouts : Nat) (s : State) : State :=
  s.withStream { state := .on, window := 4, inFlight := inFlight, timer := if inFlight = 0 then none else some 0,
                 timeouts := timeouts }

/-! ## Well-formedness and the table's words -/

theorem test_wellformed_refuses_a_negative_resistance :
    Instr.WellFormed (.integrateEnd { microvolts := 0, ohms := .resistance (-1) }) = false := by decide

theorem test_wellformed_accepts_a_resistance :
    Instr.WellFormed (.integrateEnd { microvolts := -50000, ohms := .resistance 6250 }) = true := by decide

theorem test_no_word_spells_a_command : decodeTableWord 8 0x21 = none := by decide

theorem test_withFetchWord_changes_nothing : (State.reset.withFetchWord 8 0x21).pending = [] := by decide

/-! ## Frames and encodings (chapters 10 and 11) -/

set_option maxRecDepth 8000 in
/-- R173: the CRC of "123456789" is 29B1h. -/
theorem test_crc_check_value : crc [0x31, 0x32, 0x33, 0x34, 0x35, 0x36, 0x37, 0x38, 0x39] = 0x29B1 := by decide

set_option maxRecDepth 8000 in
/-- Chapter 10: the frame of IDENTIFY with token 01h. -/
theorem test_identify_frame :
    Frame.wire { kind := 0x01, token := 0x01, payload := [] } = [0xA5, 0x02, 0x01, 0x01, 0x81, 0xEC] := by decide

/-- Chapter 11, "reading one record": the record of the first session. -/
theorem test_record_bytes : recordBytes (numbered 0)
    = [0, 0, 0, 1, 0, 0, 1, 0x11, 0, 0x09, 0xA4, 0x00, 0x12, 0xD4, 0x50, 0, 0, 0x02, 0x24] := by decide

/-- The same record with the cell wired the other way round. -/
theorem test_negative_fields :
    (signedBytes16 (-2468), signedBytes32 (-1234000)) = ([0xF6, 0x5C], [0xFF, 0xED, 0x2B, 0xB0]) := by decide

/-! ## Identity, status, restart -/

/-- R186 and R198. -/
theorem test_identify : lastReply (nextOf .identify (asked 0x01 [] State.reset))
    = [0x00, 0x3A, 0x17, 0x0B, 0x24, 0x02, 24, 64, 128, 8, 9] := by decide

/-- R200: from reset every byte is 0 but the stream window of 4. -/
theorem test_status_after_reset : lastReply (nextOf .status (asked 0x02 [] State.reset))
    = [0, 0, 0, 0, 0, 0, 0, 0, 0, 0, 0, 4, 0, 0, 0, 0, 0, 0, 0, 0, 0, 0, 0, 0, 0, 0, 0, 0] := by decide

/-- R187: the pending set names the kind of R159 (RAIL_FAULT is bit 6), and the position is behind the pass. -/
theorem test_status_in_a_scan : ((lastReply (nextOf .status (asked 0x02 []
    ((scanning .running (volt .auto 3) (stepOf 3 false false)).raise .railFault 2)))).drop 1).take 5 = [2, 0, 1, 0, 1]
    ∧ (lastReply (nextOf .status (asked 0x02 [] (State.reset.raise .railFault 2)))).getD 17 0 = 0x40 := by decide

/-- R188: the list stands, the queue and the next sequence number go, a READY rail holds. -/
theorem test_restart : (let t := (nextOf .restart (asked 0x03 []
      (queued (records 300 3 false) none 303 (scanning .running (volt .auto 1) (stepOf 3 false false)))));
    t.list.length = 2 ∧ t.queue = .reset ∧ t.seq.scan = .idle ∧ t.rail.holdTimer = some 0
      ∧ t.table[5].remembered = 3) := by decide

/-! ## Channels: the thermistor point of chapter 1 -/

/-- Row 1: OHMS, AUTO, NORMAL, 20 ms, window 800,000 to 1,200,000, hysteresis 20,000. -/
def thermistor (hysteresis : List Byte) : List Byte :=
  [21, 3, 0x80, 0, 20, 1, 0x00, 0x0C, 0x35, 0x00, 0x00, 0x12, 0x4F, 0x80] ++ hysteresis

theorem test_channel_set_thermistor :
    (nextOf .channelSet (asked 0x10 (thermistor [0, 0, 0x4E, 0x20]) State.reset)).table[21]
      = { enabled := true, function := .ohms, range := .auto, mode := .normal, settle := 20,
          window := some { low := 800000, high := 1200000, hysteresis := 20000 }, remembered := 4, trip := .clear } := by
  decide

/-- Row 2: hysteresis 250,000 is refused. -/
theorem test_channel_set_wide_hysteresis :
    lastReply (nextOf .channelSet (asked 0x10 (thermistor [0x00, 0x03, 0xD0, 0x90]) State.reset)) = [0x02] := by decide

/-- Row 5: CHANNEL_OFF keeps the trip state. -/
theorem test_channel_off : (nextOf .channelOff (asked 0x12 [21]
      (State.reset.setChannel 21 { volt .auto 2 with trip := .tripped }))).table[21]
    = { volt .auto 2 with enabled := false, trip := .tripped } := by decide

/-- Row 8, and R194 for the reset record. -/
theorem test_channel_get : lastReply (nextOf .channelGet (asked 0x11 [24] State.reset)) = [0x03]
    ∧ lastReply (nextOf .channelGet (asked 0x11 [7] State.reset))
        = [0, 7, 0, 1, 0x80, 0, 5, 0, 0, 0, 0, 0, 0, 0, 0, 0, 0, 0, 0, 0, 3, 0] := by decide

/-! ## The list and the settings: "which refusal?" of chapter 11 -/

/-- Row 2: the channel is looked at in every step before any sample count. -/
theorem test_append_no_channel :
    lastReply (nextOf .listAppend (asked 0x19 [4, 0, 25, 1, 6, 1] State.reset)) = [0x03] := by decide

/-- R196: samples in bits 0 to 4, MEAN in bit 5, MARK in bit 6. -/
theorem test_append_step : (nextOf .listAppend (asked 0x19 [20, 0x62] State.reset)).list
    = [{ channel := 20, samples := 2, mean := true, mark := true }] := by decide

theorem test_list_clear : (nextOf .listClear (asked 0x18 [] (rack Channel.reset (stepOf 1 false false)))).list = [] := by
  decide

/-- R76 and R196: the length, then each step behind its index. -/
theorem test_list_read : lastReply (nextOf .listRead (asked 0x1A [1, 16] (rack Channel.reset (stepOf 3 true false))))
    = [0, 2, 1, 0, 0x23] := by decide

/-- R77: FREE keeps the interval, and does not look at the one it carries. -/
theorem test_scan_set : (nextOf .scanSet (asked 0x20 [0, 0, 0, 0, 1, 0, 2, 1] State.reset)).settings
    = { pace := .free, interval := 1000, passes := 2, policy := .dropOldest } := by decide

/-! ## Scan control -/

/-- R81: an empty list; and the rail's start window begins with the scan. -/
theorem test_start : lastReply (nextOf .start (asked 0x21 [] State.reset)) = [0x06]
    ∧ (nextOf .start (asked 0x21 [] (rack Channel.reset (stepOf 1 false false)))).rail
        = { state := .starting, startTimer := some 0, holdTimer := none, cause := none } := by decide

/-- Chapter 6, "Filling under STALL", row 6: the staged record is discarded with its number as detail. -/
theorem test_stop : (let t := (nextOf .stop (asked 0x22 []
      (queued [] (some (numbered 1130)) 1131 (scanning .held (volt .auto 1) (stepOf 3 false false)))));
    t.queue.staged = none ∧ (t.events.get .queueLoss).detail = 1130 ∧ t.seq.scan = .idle) := by decide

/-- Chapter 5, "A full queue under STALL", row 1: PAUSE in HELD keeps the slot and the next sample. -/
theorem test_pause : (let t := nextOf .pause (asked 0x23 [] (queued [] (some (numbered 228)) 229
      { scanning .held (volt .auto 1) (stepOf 3 false false) with
        seq := { Sequencer.reset with scan := .held, pass := 1, sample := 1, cont := some .nextSample } }));
    t.seq.scan = .paused ∧ t.seq.resume = some (.within .nextSample) ∧ t.queue.staged.isSome = true) := by decide

/-- Row 3: with the slot empty RESUME goes to RUNNING, and sample 2 breaks afresh. -/
theorem test_resume : (let t := nextOf .resume (asked 0x24 []
      { scanning .paused (volt .auto 1) (stepOf 3 false false) with
        seq := { Sequencer.reset with scan := .paused, pass := 1, sample := 1, resume := some (.within .nextSample) } });
    t.seq.scan = .running ∧ t.seq.sample = 2 ∧ t.matrix.phase = .breaking) := by decide

/-- Chapter 5, "A triggered fixture", rows 4 and 5. -/
theorem test_trig_edge : (nextOf .trigEdge (scanning .running (volt .auto 1) (stepOf 1 false false))).seq.latch = true
    ∧ ((nextOf .trigEdge (nextOf .trigEdge (scanning .running (volt .auto 1) (stepOf 1 false false)))).events.get
        .paceOverrun) = { pending := true, count := 1, detail := 1, due := false } := by decide

theorem test_trigger : (nextOf .trigger (asked 0x25 [] (scanning .armed (volt .auto 1) (stepOf 1 false false)))).seq.latch
    = true := by decide

/-! ## The queue and the stream -/

/-- Chapter 10, "A lost reply", row 1: FETCH 3 returns 60, 61 and 62. -/
theorem test_fetch : (let t := nextOf .fetch (asked 0x28 [3] (queued (records 60 20 false) none 80 State.reset));
    numbers t = (List.range 17).map (63 + ·) ∧ (lastReply t).take 4 = [0, 3, 0, 60] ∧ (lastReply t).length = 59) := by
  decide

/-- "Which refusal?", rows 8 and 9. -/
theorem test_fetch_and_ack_refused : lastReply (nextOf .fetch (asked 0x28 [4] State.reset)) = [0x02]
    ∧ lastReply (nextOf .ack (asked 0x2A [0, 0] State.reset)) = [0x07] := by decide

theorem test_stream_on : (nextOf .streamOn (asked 0x29 [1, 4] (queued (records 5 2 true) none 7 State.reset))).stream.state
      = .on
    ∧ (nextOf .streamOn (asked 0x29 [1, 4] (queued (records 5 2 true) none 7 State.reset))).queue.list
        = records 5 2 false := by decide

theorem test_stream_off : (nextOf .streamOff (asked 0x29 [0, 9] (streaming 2 3 (queued (records 5 2 true) none 7
    State.reset)))).stream = { state := .off, window := 4, inFlight := 0, timer := none, timeouts := 0 } := by decide

/-- Chapter 7, "A lost report and a lost acknowledgement", row 3: ACK 502 removes 500 to 502 and k becomes 1. -/
theorem test_ack : (let t := (nextOf .ack (asked 0x2A [0x01, 0xF6]
      (streaming 4 0 (queued (records 500 4 true ++ records 504 6 false) none 510 State.reset))));
    numbers t = (List.range 7).map (503 + ·) ∧ t.stream.inFlight = 1 ∧ t.stream.timer = some 0) := by decide

/-- Row 5: ACK 502 once more is a duplicate, answered DONE, and changes nothing. -/
theorem test_ack_duplicate : (let t := (nextOf .ack (asked 0x2A [0x01, 0xF6]
      (streaming 4 0 (queued (records 503 4 true ++ records 507 3 false) none 510 State.reset))));
    lastReply t = [0] ∧ (numbers t).length = 7 ∧ t.stream.inFlight = 4) := by decide

/-- Row 6: all four in-flight records become returned, keeping their marks. -/
theorem test_retransmit_expiry : (let t := (nextOf .retransmitExpiry
      (streaming 4 0 (queued (records 503 4 true ++ records 507 3 false) none 510 State.reset)));
    t.stream = { state := .on, window := 4, inFlight := 0, timer := none, timeouts := 1 }
      ∧ t.queue.list.take 4 = records 503 4 true) := by decide

/-- Row 1: report A takes 500, 501 and 502 and starts the timer. -/
theorem test_result_report : (let t := (nextOf .resultReport
      (streaming 0 0 (queued (records 500 10 false) none 510 State.reset)));
    t.stream.inFlight = 3 ∧ t.stream.timer = some 0 ∧ t.queue.list.take 3 = records 500 3 true
      ∧ (t.link.sending.map (·.length)) = some 64) := by decide

/-! ## Events and the trip line -/

/-- Chapter 9, "A long scan and PASS_DONE", row 5: the reply shows the entry before the clear. -/
theorem test_events : (let s := ((State.reset.raise .passDone 1).raise .passDone 2).raise .passDone 3;
    let t := nextOf .events (asked 0x30 [0x00, 0x04] s);
    t.events.get .passDone = .empty ∧ ((lastReply t).drop 7).take 6 = [2, 1, 3, 0, 1, 0]) := by decide

/-- "Subscribing to something already pending": the kind becomes report-due. -/
theorem test_subscribe : (let t := nextOf .subscribe (asked 0x31 [0x00, 0x40] (State.reset.raise .railFault 2));
    (t.events.get .railFault).due = true ∧ lastReply t = [0, 0x00, 0x40]) := by decide

set_option maxRecDepth 8000 in
/-- Row 2: the report of the lowest-numbered report-due kind; its mark goes and the entry stays. -/
theorem test_event_report : (let t := (nextOf .eventReport
      ((State.reset.withEvents (.cleared 0x0204)).raise .mark 5 |>.raise .passDone 1));
    t.link.sending = some (Frame.wire { kind := 0x41, token := 0, payload := [2, 1, 0, 1] })
      ∧ t.events.get .passDone = { pending := true, count := 1, detail := 1, due := false }) := by decide

/-- Chapter 8, "A cell tap that trips, hovers and clears": rows 2 and 5, in LATCHED and in FOLLOW. -/
def tap (trip : TripState) (mode : LineMode) : State :=
  (State.reset.setChannel 4 { volt (.fixed 2) 2 with
    window := some { low := 3000000, high := 4200000, hysteresis := 50000 }, trip := trip }).withLimit
      { latch := decide (trip = .tripped), mode := mode, line := decide (trip = .tripped) }

/-- A record of the tap. -/
def tapped (value : Int) : Record := { numbered 0 with channel := 4, range := 2, count := value.tdiv 5000, value := value }

theorem test_trips : (((tap .clear .latched).evaluate (tapped 4215000)).1.flags.trip = true)
    ∧ ((tap .clear .latched).evaluate (tapped 4215000)).2.limit.line = true
    ∧ (((tap .clear .latched).evaluate (tapped 4215000)).2.events.get .trip).detail = 4 := by decide

theorem test_clears_at_the_edge_of_the_band :
    ((tap .tripped .follow).evaluate (tapped 4150000)).2.limit.line = false
      ∧ ((tap .tripped .latched).evaluate (tapped 4150000)).2.limit.line = true
      ∧ ((tap .tripped .latched).evaluate (tapped 4170000)).2.table[4].trip = .tripped := by decide

theorem test_mode_follow : lastReply (nextOf .modeFollow (asked 0x32 [0] (tap .tripped .latched))) = [0, 0, 1, 1] := by
  decide

theorem test_mode_latched : lastReply (nextOf .modeLatched (asked 0x32 [1] (tap .tripped .follow))) = [0, 1, 1, 1] := by
  decide

/-- Row 6, and R152: in FOLLOW a TRIPPED channel still holds the line. -/
theorem test_clear_latch : lastReply (nextOf .clearLatch (asked 0x32 [2] (tap .tripped .latched))) = [0, 1, 0, 0]
    ∧ lastReply (nextOf .clearLatch (asked 0x32 [2] (tap .tripped .follow))) = [0, 0, 0, 1] := by decide

/-! ## The link -/

theorem test_unknown_kind : lastReply (nextOf .unknownKind (asked 0x04 [] State.reset)) = [0x09, 0x04] := by decide

theorem test_bad_token : (nextOf .badToken (State.reset.withLink { Link.reset with
    inbound := [{ kind := 0x21, token := 0, payload := [] }] })).link.replies
      = [{ kind := 0xA1, token := 0, payload := [0x0A] }] := by decide

/-- Chapter 10, "A lost reply", row 3: the same FETCH is answered from the cache and takes nothing. -/
theorem test_repeat_cache : (let s := (queued (records 63 17 false) none 80 State.reset).withLink { Link.reset with
        inbound := [frame 0x28 [3]], cache := some (frame 0x28 [3], { kind := 0xA8, token := 0x11, payload := [0, 0] }) };
    (nextOf .repeatCacheMatch s).link.replies = [{ kind := 0xA8, token := 0x11, payload := [0, 0] }]
      ∧ (numbers (nextOf .repeatCacheMatch s)).length = 17 ∧ nextOf .fetch s = s) := by decide

/-- Chapter 10, "A damaged request": A5h begins a frame, a LEN of 82h is a framing failure. -/
theorem test_good_character : (nextOf (.goodCharacter 0xA5) State.reset).link.receiver = .length
    ∧ (nextOf (.goodCharacter 0x82) (nextOf (.goodCharacter 0xA5) State.reset)).link.framingCount = 1 := by decide

theorem test_damaged_character : (nextOf .damagedCharacter (nextOf (.goodCharacter 0xA5) State.reset)).link.receiver = .hunt
    ∧ (nextOf .damagedCharacter State.reset).link.framingCount = 0 := by decide

theorem test_gap_expiry : (nextOf .gapTimerExpiry (nextOf (.goodCharacter 0xA5) State.reset)).link
    = { Link.reset with framingCount := 1 } := by decide

theorem test_send_reply_and_frame_sent : (let s := State.reset.withLink { Link.reset with
        replies := [{ kind := 0xA1, token := 1, payload := [0] }, { kind := 0xA2, token := 2, payload := [0] }] };
    (nextOf .sendReply s).link.replies.length = 1 ∧ (nextOf .sendReply (nextOf .sendReply s)).link.replies.length = 1
      ∧ (nextOf .frameSent (nextOf .sendReply s)).link.sending = none) := by decide

/-! ## Reset (R171, R190) -/

theorem test_reset_line : (let low := nextOf (.resetNLow true false) (scanning .running (volt .auto 1) (stepOf 1 false false));
    low.seq.scan = .idle ∧ (nextOf .trigEdge low = low) ∧ (nextOf .resetNHigh low).pins.rate = .baud230400) := by decide

/-- R171, R190: power-up takes the straps' rate on a high line, and on a low one the part stays held until it returns. -/
theorem test_power_up : (nextOf (.powerUp true true) State.reset).pins.rate = .baud460800
    ∧ (let held := nextOf (.powerUp true true) (nextOf (.resetNLow false false) State.reset);
      held.pins.resetLow = true ∧ nextOf (.goodCharacter 0xA5) held = held
        ∧ (nextOf .resetNHigh held).pins.rate = .baud460800) := by decide

/-! ## The converter (chapter 2, worked conversions) -/

/-- 1.234 V and its FAST conversion, −1.23456 V, −0.0004 V, and the edge of overrange, all on VOLT range 1. -/
theorem test_ideal_counts :
    idealCrossing .normal .volt 1 { microvolts := 1234000, ohms := .openPoint } = some 2468
      ∧ idealCrossing .fast .volt 1 { microvolts := 1234000, ohms := .openPoint } = some 246
      ∧ idealCrossing .normal .volt 1 { microvolts := -1234560, ohms := .openPoint } = some 2469
      ∧ idealCrossing .normal .volt 1 { microvolts := -400, ohms := .openPoint } = some 0
      ∧ idealCrossing .normal .volt 1 { microvolts := 2199900, ohms := .openPoint } = some 4399
      ∧ idealCrossing .normal .volt 1 { microvolts := 2200000, ohms := .openPoint } = none
      ∧ idealCrossing .fast .volt 1 { microvolts := 2195000, ohms := .openPoint } = some 439 := by decide

/-- The busbar joint on each of its ranges, the thermistor, and an open point. -/
theorem test_ideal_resistances :
    [4, 3, 2, 1, 0].map (fun r => idealCrossing .normal .ohms r { microvolts := 0, ohms := .resistance 6250 })
        = [some 0, some 1, some 12, some 125, some 1250]
      ∧ idealCrossing .normal .ohms 2 { microvolts := 0, ohms := .resistance 1000000 } = some 2000
      ∧ idealCrossing .normal .ohms 4 { microvolts := 0, ohms := .openPoint } = none := by decide

/-- A conversion that has just started. -/
def zeroing (mode : Mode) : State :=
  { measuring .running (volt (.fixed 1) 1) (stepOf 3 false false) 1 none with
    conv := { Converter.idle with phase := .zero, function := some .volt, mode := some mode } }

/-- ZERO takes 2000 ticks, 50 ms, and leaves the offset. -/
theorem test_zero_end : (nextOf .zeroEnd (zeroing .normal)).conv.phase = .integrate
    ∧ (nextOf .zeroEnd (zeroing .normal)).seq.clockMs = 50 := by decide

theorem test_integrate_end : (let t := (nextOf (.integrateEnd { microvolts := -1234560, ohms := .openPoint })
      (nextOf .zeroEnd (zeroing .normal)));
    t.conv.crossing = some 2469 ∧ t.conv.polarity = .negative ∧ t.seq.clockMs = 150) := by decide

/-- 2468 ticks of DEINTEGRATE are 61.7 ms; the record of a fixed range. -/
theorem test_crossing : (let t := (nextOf .deintegrateCrossing
      (measuring .running (volt (.fixed 1) 1) (stepOf 3 false false) 1 (some 2468)));
    t.seq.clockMs = 61 ∧ t.seq.clockTicks = 28 ∧ t.seq.sample = 2 ∧ t.conv.phase = .zero
      ∧ t.queue.list.map (fun e => (e.record.count, e.record.value)) = [(2468, 1234000)]) := by decide

/-- Chapter 4, "The cell of the first session": count 24 on range 3 asks for range 2. -/
theorem test_auto_steps_down : (let t := (nextOf .deintegrateCrossing
      (measuring .running (volt .auto 3) (stepOf 3 false false) 3 (some 24)));
    t.matrix.target.map (·.range) = some 2 ∧ t.ranging.changes = 1 ∧ t.queue.list = []) := by decide

/-- "A rising input": an overrange on range 1 goes up to range 2. -/
theorem test_auto_steps_up : (let t := (nextOf .deintegrateLimit
      (measuring .running (volt .auto 1) (stepOf 3 false false) 1 none));
    t.matrix.target.map (·.range) = some 2 ∧ t.ranging.changes = 1 ∧ t.queue.list = []) := by decide

/-- "A MEAN step with one spike": (2468 + 2470 + 4400 + 2466) / 4 is 2951, with OVER. -/
theorem test_mean : (let s := measuring .running (volt (.fixed 1) 1) (stepOf 4 true false) 1 (some 2466);
    let t := nextOf .deintegrateCrossing { s with
      seq := { s.seq with sample := 4, acc := { sum := 9338, overrange := true, hunt := false } } };
    t.queue.list.map (fun e => (e.record.count, e.record.value, e.record.flags.overrange)) = [(2951, 1475500, true)]) := by
  decide

/-! ## The matrix and the rail (chapter 3, worked sequences) -/

/-- A connection being made, in BREAK. -/
def breaking (settle : Nat) : State :=
  { scanning .running (volt .auto 3) (stepOf 3 false false) with
    matrix := .breakTo { channel := 0, function := .volt, range := 3, settle := settle } }

theorem test_break_end : (nextOf .breakEnd (breaking 5)).matrix.channel = some 0
    ∧ (nextOf .breakEnd (breaking 5)).matrix.phase = .settling ∧ (nextOf .breakEnd (breaking 5)).seq.clockMs = 1
    ∧ (nextOf .breakEnd (breaking 0)).conv.phase = .zero := by decide

theorem test_settle_end : (nextOf .settleEnd (nextOf .breakEnd (breaking 5))).conv.phase = .zero
    ∧ (nextOf .settleEnd (nextOf .breakEnd (breaking 5))).seq.clockMs = 6 := by decide

/-- An armed scan with the rail STARTING. -/
def starting : State :=
  { scanning .armed (volt .auto 3) (stepOf 3 false false) with
    rail := { Rail.off with state := .starting, startTimer := some 0 } }

theorem test_rail_inside_window : (nextOf .railInsideWindow starting).rail = { Rail.off with state := .ready } := by decide

/-- "A rail that does not come up". -/
theorem test_start_timeout : (let t := nextOf .startTimeout starting;
    t.rail.cause = some .startTimeout ∧ t.seq.scan = .faulted ∧ t.seq.clockMs = 30
      ∧ (t.events.get .railFault).detail = 1) := by decide

/-- "A drop during a resistance conversion", row 1, and "A drop in the hold time". -/
theorem test_drop : (let t := nextOf .drop (measuring .running (volt .auto 3) (stepOf 3 false false) 3 none);
    t.rail.state = .fault ∧ t.matrix = .opened ∧ t.conv = .idle ∧ t.seq.scan = .faulted
      ∧ (t.events.get .railFault).detail = 2)
    ∧ (nextOf .drop (State.reset.withRail { Rail.off with state := .ready, holdTimer := some 7 })).rail = .off := by decide

theorem test_hold_expiry :
    (nextOf .holdExpiry (State.reset.withRail { Rail.off with state := .ready, holdTimer := some 0 })).rail = .off := by
  decide

/-! ## Passes and the pace -/

/-- R82: the first pass is pass 1, and its first sample breaks to the remembered range. -/
theorem test_pass_start : (let t := (nextOf .passStart ((scanning .armed (volt .auto 3) (stepOf 3 false false)).withSeq
      { Sequencer.reset with scan := .armed }));
    t.seq.scan = .running ∧ t.seq.pass = 1 ∧ t.seq.sample = 1 ∧ t.matrix.target.map (·.range) = some 3) := by decide

/-- R87: a disabled channel gives one SKIPPED record for each step. -/
theorem test_disabled_channels : (let t := (nextOf .passStart ((scanning .armed Channel.reset (stepOf 3 false false)).withSeq
      { Sequencer.reset with scan := .armed }));
    t.queue.list.map (fun e => (e.record.step, e.record.flags.skipped)) = [(0, true), (1, true)]
      ∧ t.seq.scan = .idle) := by decide

/-- R83 and R84: a late pass of an unlimited scan, and the last pass of a limited one. -/
def timed (passes : Nat) : State :=
  { scanning .running (volt .auto 1) (stepOf 3 false false) with
    settings := { pace := .timed, interval := 10, passes := passes, policy := .stall }
    seq := { Sequencer.reset with scan := .running, pass := 3, sample := 1, passesDone := 2, paceTimer := some 0 } }

theorem test_pace_timer_expiry : ((nextOf .paceTimerExpiry (timed 0)).events.get .paceOverrun).detail = 3
    ∧ ((nextOf .paceTimerExpiry (timed 3)).events.get .paceOverrun).pending = false
    ∧ (nextOf .paceTimerExpiry (timed 3)).seq.paceDue = true
    ∧ (nextOf .paceTimerExpiry (timed 3)).seq.clockMs = 10 := by decide

theorem test_scan_clock_wrap : (nextOf .scanClockWrap ((scanning .running (volt .auto 1) (stepOf 1 false false)).withSeq
    { Sequencer.reset with scan := .running, clockMs := 0xFFFFFFFF, clockTicks := 39 })).seq.clockMs = 0 := by decide

/-- The block idles for one tick on an empty queue (log entry 2). -/
theorem test_idle_step : (match step (zeroing .normal) with
    | .next t => t.conv.ticks
    | .fault _ => 0
    | .refused _ => 0) = 1 := by decide

/-! ## Witnesses: states and operands that meet the hypotheses of each statement, clause by clause -/

/-- The scan of three-sample steps at point 0 that many witnesses stand in. -/
def running : State := scanning .running (volt .auto 3) (stepOf 3 false false)

/-- The same scan in another scan state. -/
def inState (scan : ScanState) : State := scanning scan (volt .auto 3) (stepOf 3 false false)

/-- A link with a receiver state and some frames in its queues. -/
def hearing (receiver : Receiver) (inbound : Nat) : State :=
  State.reset.withLink { Link.reset with
    receiver := receiver, gapTimer := if receiver = .hunt then none else some 0
    inbound := List.replicate inbound (frame 0x02 []) }

theorem witness_StepRunsTheFrontCommand : (State.reset.withPending [.trigEdge]).pending = [.trigEdge] := by decide

theorem witness_ResetIsTakenAtOnceAndHoldsThePart :
    (nextOf (.resetNLow true false) State.reset).pins.resetLow = true ∧ State.reset.pins.resetLow = false
      ∧ isResetRow .start = false := by decide

theorem witness_SilentUntilARequestComes : Silent State.reset
    ∧ exec .trigEdge State.reset = .next (nextOf .trigEdge State.reset)
    ∧ exec (.goodCharacter 0xA5) State.reset = .next (nextOf (.goodCharacter 0xA5) State.reset)
    ∧ (nextOf (.goodCharacter 0xA5) State.reset).link.inbound = [] ∧ (∀ b, Instr.trigEdge ≠ .goodCharacter b) :=
  ⟨by decide, rfl, rfl, by decide, by simp⟩

theorem witness_SettingsChangeOnlyByTheirRequests :
    (nextOf .listClear (asked 0x18 [] (rack Channel.reset (stepOf 1 false false)))).list
        ≠ (rack Channel.reset (stepOf 1 false false)).list
      ∧ (nextOf .scanSet (asked 0x20 [2, 0, 0, 0, 0, 0, 0, 0] State.reset)).settings ≠ State.reset.settings
      ∧ isResetRow .listClear = false ∧ isResetRow .scanSet = false ∧ Instr.scanSet ≠ .channelSet
      ∧ Instr.scanSet ≠ .channelOff
      ∧ exec .scanSet (asked 0x20 [2, 0, 0, 0, 0, 0, 0, 0] State.reset)
        = .next (nextOf .scanSet (asked 0x20 [2, 0, 0, 0, 0, 0, 0, 0] State.reset)) :=
  ⟨by decide, by decide, by decide, by decide, by decide, by decide, rfl⟩

theorem witness_OnlyThreeThingsClearTheTripLatch :
    exec .clearLatch (asked 0x32 [2] (tap .tripped .latched))
        = .next (nextOf .clearLatch (asked 0x32 [2] (tap .tripped .latched)))
      ∧ (asked 0x32 [2] (tap .tripped .latched)).limit.latch = true
      ∧ (nextOf .clearLatch (asked 0x32 [2] (tap .tripped .latched))).limit.latch = false :=
  ⟨rfl, by decide, by decide⟩

set_option maxRecDepth 8000 in
/-- Every receiver state, LEN at 1, 2, 62 and 63, the last byte of a body, and the three ends of a frame. -/
theorem witness_ReceiverTakesAGoodCharacter :
    (hearing .hunt 0).pins.resetLow = false ∧ (hearing .hunt 0).link.receiver = .hunt
      ∧ (hearing .length 0).link.receiver = .length
      ∧ (2 ≤ (0x02 : Byte).toNat ∧ (0x3E : Byte).toNat ≤ 62 ∧ (0x01 : Byte).toNat < 2 ∧ 62 < (0x3F : Byte).toNat)
      ∧ (hearing (.body 2 []) 0).link.receiver = .body 2 [] ∧ ([] : List Byte).length + 1 < 2
      ∧ (hearing (.body 2 [1]) 0).link.receiver = .body 2 [1] ∧ [(1 : Byte)].length + 1 = 2
      ∧ (hearing (.check 2 [1, 1] []) 0).link.receiver = .check 2 [1, 1] []
      ∧ (hearing (.check 2 [1, 1] [0x81]) 0).link.receiver = .check 2 [1, 1] [0x81]
      ∧ ([0x81, 0xED] : List Byte) ≠ bytes16 (crc (byteOf 2 :: [1, 1])).toNat
      ∧ ([0x81, 0xEC] : List Byte) = bytes16 (crc (byteOf 2 :: [1, 1])).toNat
      ∧ (hearing (.check 2 [1, 1] [0x81]) 3).link.inbound.length < 4
      ∧ 4 ≤ (hearing (.check 2 [1, 1] [0x81]) 4).link.inbound.length := by decide

theorem witness_FailedFrameIsDiscardedAndCounted :
    (hearing .hunt 0).link.receiver = .hunt ∧ (hearing .hunt 0).link.gapTimer = none
      ∧ (hearing .length 0).link.receiver ≠ .hunt ∧ (hearing .length 0).link.gapTimer = some 0
      ∧ (hearing .length 0).pins.resetLow = false := by decide

set_option maxRecDepth 8000 in
/-- The longest frame, room for just one more, and the CRC of the frame of IDENTIFY with token 01h (chapter 10). -/
theorem witness_FrameOnTheWireIsReceivedAsThatFrame :
    (frame 0x21 (List.replicate 60 0)).payload.length ≤ 60 ∧ (hearing .hunt 3).pins.resetLow = false
      ∧ (hearing .hunt 3).link.receiver = .hunt ∧ (hearing .hunt 3).link.gapTimer = none
      ∧ (hearing .hunt 3).link.inbound.length < 4
      ∧ (0x81EC : Word16) = crc (byteOf (2 + ([] : List Byte).length) :: 0x01 :: 0x01 :: []) := by decide

/-- Some replies waiting. -/
def waiting (n : Nat) (s : State) : State :=
  s.withLink { s.link with replies := List.replicate n { kind := 0x82, token := 1, payload := [0] } }

theorem witness_FramesAnsweredWithoutExecution :
    ((waiting 3 (asked 0x7F [] State.reset)).pins.resetLow = false
        ∧ (waiting 3 (asked 0x7F [] State.reset)).link.inbound = [frame 0x7F []]
        ∧ (waiting 3 (asked 0x7F [] State.reset)).link.replies.length < 4 ∧ isRequestKind 0x7F = false)
      ∧ isRequestKind 0x21 = true
      ∧ ((State.reset.withLink { Link.reset with inbound := [frame 0x21 []], cache := some (frame 0x21 [], frame 0xA1 [0])
          }).link.cache = some (frame 0x21 [], frame 0xA1 [0]) ∧ (frame 0x21 []).token ≠ 0) := by decide

/-- A request, an unknown kind and a token of 0, each taken and answered, and a reply sent. -/
theorem witness_EveryFrameTakenGetsExactlyOneReply :
    exec .start (asked 0x21 [] State.reset) = .next (nextOf .start (asked 0x21 [] State.reset))
      ∧ isResetRow .start = false ∧ (∀ b, Instr.start ≠ .goodCharacter b)
      ∧ (nextOf .start (asked 0x21 [] State.reset)).link.replies = [frame 0xA1 [0x06]]
      ∧ (nextOf .unknownKind (asked 0x7F [] State.reset)).link.inbound = []
      ∧ (nextOf .sendReply (waiting 1 State.reset)).link.replies = [] :=
  ⟨rfl, by decide, by simp, by decide, by decide, by decide⟩

theorem witness_RefusedRequestChangesNoBlock :
    Instr.start ∈ requestRows ∧ (asked 0x21 [] State.reset).Executes (frame 0x21 []) []
      ∧ exec .start (asked 0x21 [] State.reset) = .next (nextOf .start (asked 0x21 [] State.reset))
      ∧ nextOf .start (asked 0x21 [] State.reset) ≠ asked 0x21 [] State.reset :=
  ⟨by decide, by decide, rfl, by decide⟩

/-- A reply waiting, a due kind of the highest number, and a busy transmitter. -/
theorem witness_ArbiterSendsRepliesThenEvents :
    State.reset.pins.resetLow = false
      ∧ ((waiting 1 State.reset).link.sending = none
        ∧ (waiting 1 State.reset).link.replies = [{ kind := 0x82, token := 1, payload := [0] }])
      ∧ (((State.reset.withEvents (.cleared 0x0200)).raise .mark 5).link.replies = []
        ∧ (((State.reset.withEvents (.cleared 0x0200)).raise .mark 5).events.get .mark).due = true
        ∧ ∀ j : EventKind, j.number < EventKind.mark.number →
            (((State.reset.withEvents (.cleared 0x0200)).raise .mark 5).events.get j).due = false)
      ∧ (State.reset.withLink { Link.reset with sending := some [0xA5] }).link.sending ≠ none :=
  ⟨by decide, by decide, ⟨by decide, by decide, fun j => by cases j <;> decide⟩, by decide⟩

/-- Two in flight, one more fits the window of 4 before three would; a stream that is OFF, a window full, and no unsent
record. -/
theorem witness_ResultReportTakesTheOldestUnsentRecords :
    (let s := streaming 2 0 (queued (records 500 2 true ++ records 502 2 false ++ records 504 6 false) none 510 State.reset);
      s.pins.resetLow = false ∧ s.link.sending = none ∧ s.link.replies = [] ∧ s.stream.state = .on
        ∧ s.stream.inFlight < s.stream.window
        ∧ s.queue.list = records 500 2 true ++ records 502 2 false ++ records 504 6 false
        ∧ (records 500 2 true).length = s.stream.inFlight ∧ (records 502 2 false).length = 2
        ∧ 2 = min 3 (min (s.stream.window - s.stream.inFlight) ((records 502 2 false).length + (records 504 6 false).length)))
      ∧ (State.reset.stream.state ≠ .on
        ∧ (streaming 4 0 State.reset).stream.window ≤ (streaming 4 0 State.reset).stream.inFlight
        ∧ (streaming 2 0 (queued (records 500 2 true) none 502 State.reset)).queue.list.length
            ≤ (streaming 2 0 (queued (records 500 2 true) none 502 State.reset)).stream.inFlight)
      ∧ (signedBytes16 (-32768) = [0x80, 0x00] ∧ signedBytes16 32767 = [0x7F, 0xFF]
        ∧ signedBytes32 (-2147483648) = [0x80, 0x00, 0x00, 0x00] ∧ bytes32 4294967295 = [0xFF, 0xFF, 0xFF, 0xFF]
        ∧ bytes16 65535 = [0xFF, 0xFF] ∧ (255 : Nat) < 256)
      ∧ ∀ k : EventKind, (State.reset.events.get k).due = false :=
  ⟨by decide, by decide, by decide, fun k => by cases k <;> decide⟩

theorem witness_IdentifyAnswersTheFixedValues : (asked 0x01 [] State.reset).Executes (frame 0x01 []) []
    ∧ (asked 0x01 [7] State.reset).Executes (frame 0x01 [7]) [] := by decide

/-- A PAUSED scan with a resume point. -/
def pausedAt (r : ResumePoint) : State :=
  { scanning .paused (volt .auto 3) (stepOf 3 false false) with
    seq := { Sequencer.reset with scan := .paused, pass := 1, sample := 1, resume := some r } }

/-- A HELD scan with a continuation, its list full and a record staged. -/
def heldAt (c : Continuation) : State :=
  queued (List.replicate 128 { record := numbered 1, sent := false }) (some (numbered 2)) 3
    { inState .held with
      seq := { Sequencer.reset with scan := .held, pass := 1, sample := 1, cont := some c } }

theorem witness_StatusReportsTheState : (asked 0x02 [] running).Executes (frame 0x02 []) []
    ∧ (asked 0x02 [0] running).Executes (frame 0x02 [0]) []
    ∧ State.reset.seq.scan = .idle ∧ running.seq.scan = .running ∧ (inState .faulted).seq.scan = .faulted
    ∧ ((queued [] (some (numbered 1)) 2 (inState .held)).seq.scan = .held
      ∧ (queued [] (some (numbered 1)) 2 (inState .held)).queue.staged = some (numbered 1))
    ∧ (pausedAt .toArmed).seq.scan = .paused ∧ (pausedAt .toArmed).seq.resume = some .toArmed
    ∧ (pausedAt (.within .measure)).seq.resume = some (.within .measure)
    ∧ (pausedAt (.within .nextSample)).seq.resume = some (.within .nextSample)
    ∧ (pausedAt (.within .redoStep)).seq.resume = some (.within .redoStep)
    ∧ (pausedAt (.within .endPass)).seq.resume = some (.within .endPass) := by decide

theorem witness_RestartClearsTheWorkAndKeepsTheSettings : (asked 0x03 [] running).Executes (frame 0x03 []) []
    ∧ running.seq.scan ≠ .idle ∧ (asked 0x03 [] State.reset).Executes (frame 0x03 []) []
    ∧ (asked 0x03 [0] running).Executes (frame 0x03 [0]) [] := by decide

/-- Settings at the edges of R4, R7 and R8: the highest range, 250 ms, and the widest hysteresis of a window. -/
def edge : ChannelSettings :=
  { function := .ohms, range := .fixed 4, mode := .fast, settle := 250,
    window := some { low := -16000000, high := 16000000, hysteresis := 16000000 } }

/-- AUTO settings with no window. -/
def plain : ChannelSettings := { function := .curr, range := .auto, mode := .normal, settle := 0, window := none }

theorem witness_ChannelSetWritesTheWholeRecord :
    edge.Legal ∧ plain.Legal ∧ (List.replicate 12 (0xFF : Byte)).length = 12
      ∧ (asked 0x10 (edge.payload 23 []) State.reset).Executes (frame 0x10 (edge.payload 23 [])) []
      ∧ (asked 0x10 (plain.payload 0 (List.replicate 12 0xFF)) State.reset).Executes
          (frame 0x10 (plain.payload 0 (List.replicate 12 0xFF))) []
      ∧ State.reset.seq.scan = .idle
      ∧ (∀ st ∈ (asked 0x10 (edge.payload 23 []) running).currentStep, st.channel ≠ 23)
      ∧ (asked 0x10 (edge.payload 0 []) (pausedAt .toArmed)).Executes (frame 0x10 (edge.payload 0 [])) []
      ∧ (pausedAt .toArmed).seq.scan = .paused ∧ (pausedAt .toArmed).seq.resume = some .toArmed := by decide

theorem witness_ChannelSetRefusesWhatIsIllegal :
    signedField32 [0x10, 0xFF, 0xFF, 0xFF, 0xFF, 0x07] 1 = -1 ∧ field32 [0x80, 0x00, 0x00, 0x00] 0 = 2147483648
      ∧ (asked 0x10 [1] State.reset).Executes (frame 0x10 [1]) []
      ∧ ((24 :: List.replicate 17 (0 : Byte)).length = 18 ∧ 24 ≤ field8 (24 :: List.replicate 17 (0 : Byte)) 0)
      ∧ ((23 :: List.replicate 17 (0 : Byte)).length = 18 ∧ field8 (23 :: List.replicate 17 (0 : Byte)) 0 < 24)
      ∧ (asked 0x10 (23 :: List.replicate 17 0) State.reset).Executes (frame 0x10 (23 :: List.replicate 17 0)) [] := by
  decide

/-- A scan that measures, one that is pausing, and one HELD and one PAUSED with and without records still to produce. -/
theorem witness_ChannelSetInFlightStartsTheStepAgain :
    edge.Legal ∧ (asked 0x10 (edge.payload 0 []) running).Executes (frame 0x10 (edge.payload 0 [])) []
      ∧ running.currentStep = some (stepOf 3 false false) ∧ (stepOf 3 false false).channel = 0
      ∧ running.rail.state = .ready ∧ running.seq.scan = .running
      ∧ (inState .pausing).seq.scan = .pausing ∧ (inState .pausing).currentStep = some (stepOf 3 false false)
      ∧ (asked 0x10 (edge.payload 0 []) (inState .pausing)).Executes (frame 0x10 (edge.payload 0 [])) []
      ∧ (∀ c ∈ [Continuation.nextSample, .redoStep, .nextStep, .endPass],
        (asked 0x10 (edge.payload 0 []) (heldAt c)).Executes (frame 0x10 (edge.payload 0 [])) []
          ∧ (heldAt c).seq.scan = .held ∧ (heldAt c).seq.cont = some c
          ∧ (heldAt c).currentStep = some (stepOf 3 false false))
      ∧ (∀ c ∈ [Continuation.measure, .nextSample, .redoStep, .nextStep, .endPass],
        (asked 0x10 (edge.payload 0 []) (pausedAt (.within c))).Executes (frame 0x10 (edge.payload 0 [])) []
          ∧ (pausedAt (.within c)).seq.scan = .paused ∧ (pausedAt (.within c)).seq.resume = some (.within c)
          ∧ (pausedAt (.within c)).currentStep = some (stepOf 3 false false)) := by decide

theorem witness_ChannelOffDisablesTheChannelOnly :
    (asked 0x12 [] State.reset).Executes (frame 0x12 []) [] ∧ 24 ≤ (24 : Byte).toNat
      ∧ (asked 0x12 [24] State.reset).Executes (frame 0x12 [24]) [] ∧ ([23] : List Byte) = [byteOf (23 : Fin 24)]
      ∧ (asked 0x12 [23] running).Executes (frame 0x12 [23]) [] ∧ (∀ st ∈ running.currentStep, st.channel ≠ 23)
      ∧ ((asked 0x12 [0] running).Executes (frame 0x12 [0]) [] ∧ running.seq.scan = .running
        ∧ running.queue.list.length < 128 ∧ running.currentStep = some (stepOf 3 false false)
        ∧ (stepOf 3 false false).channel = 0)
      ∧ (asked 0x12 [0] (inState .pausing)).Executes (frame 0x12 [0]) []
      ∧ (inState .pausing).currentStep = some (stepOf 3 false false)
      ∧ (∀ c ∈ [Continuation.nextSample, .redoStep, .nextStep, .endPass],
        (asked 0x12 [0] (heldAt c)).Executes (frame 0x12 [0]) [] ∧ (heldAt c).seq.scan = .held
          ∧ (heldAt c).seq.cont = some c ∧ (heldAt c).currentStep = some (stepOf 3 false false))
      ∧ (∀ c ∈ [Continuation.measure, .nextSample, .redoStep, .nextStep, .endPass],
        (asked 0x12 [0] (pausedAt (.within c))).Executes (frame 0x12 [0]) [] ∧ (pausedAt (.within c)).seq.scan = .paused
          ∧ (pausedAt (.within c)).seq.resume = some (.within c)
          ∧ (pausedAt (.within c)).currentStep = some (stepOf 3 false false)) :=
  ⟨by decide, by decide, by decide, by decide, by decide, by decide, by decide, by decide, by decide, by decide, by decide⟩

theorem witness_ChannelGetReportsTheRecord : (asked 0x11 [] State.reset).Executes (frame 0x11 []) []
    ∧ (asked 0x11 [24] State.reset).Executes (frame 0x11 [24]) []
    ∧ (asked 0x11 [23] State.reset).Executes (frame 0x11 [23]) [] := by decide

theorem witness_ListClearEmptiesTheListInIdle : (asked 0x18 [1] State.reset).Executes (frame 0x18 [1]) []
    ∧ (asked 0x18 [] running).Executes (frame 0x18 []) [] ∧ running.seq.scan ≠ .idle
    ∧ (asked 0x18 [] State.reset).Executes (frame 0x18 []) [] ∧ State.reset.seq.scan = .idle := by decide

/-- Sixteen steps of 16 samples, on lists that hold 48 and 49. -/
theorem witness_ListAppendAddsTheStepsInOrder :
    (let steps := List.replicate 16 (stepOf 16 true true);
      1 ≤ steps.length ∧ steps.length ≤ 16 ∧ (∀ st ∈ steps, st.Legal)
        ∧ (asked 0x19 (steps.flatMap stepBytes) State.reset).Executes (frame 0x19 (steps.flatMap stepBytes)) []
        ∧ (asked 0x19 (steps.flatMap stepBytes) running).Executes (frame 0x19 (steps.flatMap stepBytes)) []
        ∧ (List.replicate 48 (stepOf 1 false false)).length + steps.length ≤ 64
        ∧ 64 < (List.replicate 49 (stepOf 1 false false)).length + steps.length)
      ∧ Step.Legal (stepOf 1 false false)
      ∧ (asked 0x19 (List.replicate 34 1) State.reset).Executes (frame 0x19 (List.replicate 34 1)) []
      ∧ (asked 0x19 [23, 1, 24, 0] State.reset).Executes (frame 0x19 [23, 1, 24, 0]) [] ∧ 24 ≤ (24 : Byte).toNat
      ∧ (asked 0x19 [23, 17] State.reset).Executes (frame 0x19 [23, 17]) [] ∧ 16 < (17 : Byte).toNat % 32
      ∧ (128 : Nat) ≤ (0x81 : Byte).toNat := by decide

theorem witness_ListReadReturnsTheSteps : (asked 0x1A [1] running).Executes (frame 0x1A [1]) []
    ∧ (asked 0x1A [1, 16] running).Executes (frame 0x1A [1, 16]) [] ∧ running.list.length = 2
    ∧ (asked 0x1A [2, 1] running).Executes (frame 0x1A [2, 1]) []
    ∧ Step.Legal (stepOf 1 false false) ∧ Step.Legal (stepOf 16 true true) := by decide

/-- TIMED at 9, 10 and 600000 ms, and IDLE or not. -/
theorem witness_ScanSetWritesTheSettings :
    (asked 0x20 [0, 0, 0, 0, 0, 0, 0] running).Executes (frame 0x20 [0, 0, 0, 0, 0, 0, 0]) [] ∧
    (asked 0x20 [1, 0, 0, 0, 9, 0, 0, 2] State.reset).Executes (frame 0x20 [1, 0, 0, 0, 9, 0, 0, 2]) []
      ∧ (asked 0x20 [1, 0, 0x09, 0x27, 0xC0, 0xFF, 0xFF, 2] running).Executes
          (frame 0x20 [1, 0, 0x09, 0x27, 0xC0, 0xFF, 0xFF, 2]) []
      ∧ ((0 * 256 + 0x09) * 256 + 0x27) * 256 + 0xC0 = 600000 ∧ ((0 * 256 + 0) * 256 + 0) * 256 + 10 = 10
      ∧ (asked 0x20 [1, 0, 0, 0, 10, 0, 1, 0] State.reset).Executes (frame 0x20 [1, 0, 0, 0, 10, 0, 1, 0]) [] := by decide

theorem witness_StartArmsTheScan : (asked 0x21 [1] State.reset).Executes (frame 0x21 [1]) []
    ∧ (asked 0x21 [] running).Executes (frame 0x21 []) [] ∧ running.seq.scan ≠ .idle
    ∧ (asked 0x21 [] State.reset).Executes (frame 0x21 []) [] ∧ State.reset.list = []
    ∧ (asked 0x21 [] (rack Channel.reset (stepOf 1 false false))).Executes (frame 0x21 []) []
    ∧ (rack Channel.reset (stepOf 1 false false)).list ≠ []
    ∧ (rack Channel.reset (stepOf 1 false false)).seq.scan = .idle := by decide

theorem witness_StopCutsTheScanOff : (asked 0x22 [1] State.reset).Executes (frame 0x22 [1]) []
    ∧ (asked 0x22 [] State.reset).Executes (frame 0x22 []) [] ∧ State.reset.seq.scan = .idle
    ∧ (asked 0x22 [] (queued [] (some (numbered 9)) 10 (inState .held))).Executes (frame 0x22 []) []
    ∧ (inState .held).seq.scan ≠ .idle := by decide

theorem witness_PauseActsByScanState : (asked 0x23 [1] State.reset).Executes (frame 0x23 [1]) []
    ∧ ((asked 0x23 [] (zeroing .fast)).Executes (frame 0x23 []) [] ∧ (zeroing .fast).seq.scan = .running
      ∧ (zeroing .fast).conv.phase ≠ .idle)
    ∧ ((asked 0x23 [] running).Executes (frame 0x23 []) [] ∧ running.conv.phase = .idle)
    ∧ (asked 0x23 [] (inState .armed)).Executes (frame 0x23 []) []
    ∧ ((asked 0x23 [] (inState .held)).Executes (frame 0x23 []) [] ∧ (inState .held).seq.cont = some .measure)
    ∧ (asked 0x23 [] (inState .pausing)).Executes (frame 0x23 []) []
    ∧ (asked 0x23 [] (inState .faulted)).Executes (frame 0x23 []) [] := by decide

theorem witness_ResumeActsByScanState : (asked 0x24 [1] State.reset).Executes (frame 0x24 [1]) []
    ∧ (asked 0x24 [] (inState .pausing)).Executes (frame 0x24 []) []
    ∧ ((asked 0x24 [] (queued [] (some (numbered 9)) 10 (pausedAt (.within .nextSample)))).Executes (frame 0x24 []) []
      ∧ (pausedAt (.within .nextSample)).seq.resume = some (.within .nextSample))
    ∧ ((asked 0x24 [] (pausedAt .toArmed)).Executes (frame 0x24 []) [] ∧ (pausedAt .toArmed).queue.staged = none)
    ∧ (let s := (pausedAt (.within .measure)).withRanging { sampleRange := some 2, changes := 3, lock := none };
      (asked 0x24 [] s).Executes (frame 0x24 []) [] ∧ s.seq.scan = .paused ∧ s.seq.resume = some (.within .measure)
        ∧ s.currentStep = some (stepOf 3 false false) ∧ s.ranging.sampleRange = some 2 ∧ s.matrix.phase = .opened
        ∧ s.rail.state = .ready)
    ∧ (∀ c ∈ [Continuation.nextSample, .redoStep, .nextStep, .endPass],
      (asked 0x24 [] (pausedAt (.within c))).Executes (frame 0x24 []) [] ∧ (pausedAt (.within c)).seq.scan = .paused
        ∧ (pausedAt (.within c)).queue.staged = none ∧ (pausedAt (.within c)).seq.resume = some (.within c)
        ∧ (pausedAt (.within c)).matrix.phase = .opened ∧ (pausedAt (.within c)).rail.state = .ready
        ∧ (pausedAt (.within c)).table[(0 : Fin 24)].enabled = true
        ∧ (pausedAt (.within c)).list[0]? = some (stepOf 3 false false)
        ∧ (pausedAt (.within c)).list[1]? = some (stepOf 3 false false))
    ∧ (asked 0x24 [] running).Executes (frame 0x24 []) []
    ∧ (asked 0x24 [] State.reset).Executes (frame 0x24 []) [] :=
  ⟨by decide, by decide, by decide, by decide, by decide, by decide, by decide, by decide⟩

theorem witness_TriggersReachTheLatch : State.reset.pins.resetLow = false ∧ State.reset.seq.scan = .idle
    ∧ running.seq.scan ≠ .idle ∧ running.seq.latch = false
    ∧ (running.withSeq { running.seq with latch := true }).seq.latch = true
    ∧ (asked 0x25 [] running).Executes (frame 0x25 []) [] ∧ (asked 0x25 [1] running).Executes (frame 0x25 [1]) []
    ∧ (asked 0x25 [] (running.withSeq { running.seq with latch := true })).Executes (frame 0x25 []) [] := by decide

set_option maxRecDepth 8000 in
/-- A list of 127 and of 128, under each policy, the second with two marked records before the oldest fresh one. -/
theorem witness_AdmissionFollowsThePolicy :
    (queued (records 0 127 false) none 127 running).queue.list.length < 128
      ∧ 128 ≤ (queued (records 0 128 false) none 128 running).queue.list.length ∧ running.settings.policy = .stall
      ∧ (running.withSettings { Settings.reset with policy := .dropNewest }).settings.policy = .dropNewest
      ∧ (running.withSettings { Settings.reset with policy := .dropOldest }).settings.policy = .dropOldest
      ∧ (queued (records 0 2 true ++ records 2 126 false) none 128 running).queue.list
          = records 0 2 true ++ { record := numbered 2, sent := false } :: records 3 125 false
      ∧ (∀ e ∈ records 0 2 true, e.sent = true) := by decide

/-- Numbers that run through the wrap at 65535, and the last distance each premise allows. -/
theorem witness_ProductionKeepsSequenceOrder :
    SeqLaw 65534 (queued (records 65534 3 false) none 1 State.reset).queue
      ∧ (queued (records 65534 3 false) none 1 State.reset).queue.staged = none
      ∧ seqDistance 65534 (queued (records 65534 3 false) none 1 State.reset).queue.nextSeq < 65535
      ∧ SeqLaw 0 (queued [] none 65534 State.reset).queue ∧ seqDistance 0 65534 < 65535
      ∧ seqDistance 0 65471 + 64 < 65536 ∧ Lawful (queued (records 65469 2 false) none 65471 State.reset)
      ∧ SeqLaw 0 (queued (records 65469 2 false) none 65471 State.reset).queue
      ∧ step (queued (records 65469 2 false) none 65471 State.reset)
        = .next (queued (records 65469 2 false) none 65471 State.reset).tick :=
  ⟨by decide, by decide, by decide, by decide, by decide, by decide,
    ⟨by decide, by decide, by decide, by decide, by decide, by decide,
      ⟨by decide, by decide, by decide, by decide⟩, by decide, by decide, by decide⟩, by decide, rfl⟩

theorem witness_FetchRemovesTheOldestRecords : (asked 0x28 [] State.reset).Executes (frame 0x28 []) []
    ∧ (asked 0x28 [4] State.reset).Executes (frame 0x28 [4]) []
    ∧ ((asked 0x28 [3] (streaming 0 0 State.reset)).Executes (frame 0x28 [3]) []
      ∧ (streaming 0 0 State.reset).stream.state ≠ .off)
    ∧ ((asked 0x28 [1] State.reset).Executes (frame 0x28 [1]) [] ∧ State.reset.queue.staged = none)
    ∧ (let s := queued (records 0 3 false) (some (numbered 3)) 4 (pausedAt (.within .nextSample));
      (asked 0x28 [3] s).Executes (frame 0x28 [3]) [] ∧ s.stream.state = .off ∧ s.queue.staged = some (numbered 3)
        ∧ s.queue.list ≠ [] ∧ s.seq.scan ≠ .held)
    ∧ (let s := queued (records 0 3 false) (some (numbered 3)) 4 ((inState .held).withSettings
          { Settings.reset with passes := 0 });
      let h := s.withSeq { s.seq with cont := some .endPass };
      (asked 0x28 [3] h).Executes (frame 0x28 [3]) [] ∧ h.queue.list ≠ [] ∧ h.seq.scan = .held
        ∧ h.seq.cont = some .endPass ∧ h.settings.passes = 0)
    ∧ (∀ c ∈ [Continuation.nextSample, .redoStep, .nextStep, .endPass],
      (asked 0x28 [1] (heldAt c)).Executes (frame 0x28 [1]) [] ∧ (heldAt c).stream.state = .off
        ∧ (heldAt c).queue.staged = some (numbered 2) ∧ (heldAt c).queue.list ≠ [] ∧ (heldAt c).seq.scan = .held
        ∧ (heldAt c).seq.cont = some c) :=
  ⟨by decide, by decide, by decide, by decide, by decide, by decide, by decide⟩

theorem witness_StreamRequestsMakeEveryRecordFresh : (asked 0x29 [1, 8] State.reset).Executes (frame 0x29 [1, 8]) []
    ∧ (asked 0x29 [1, 1] State.reset).Executes (frame 0x29 [1, 1]) []
    ∧ (asked 0x29 [0, 255] State.reset).Executes (frame 0x29 [0, 255]) []
    ∧ (asked 0x29 [1, 9] State.reset).Executes (frame 0x29 [1, 9]) []
    ∧ (asked 0x29 [2, 1] State.reset).Executes (frame 0x29 [2, 1]) []
    ∧ (asked 0x29 [1] State.reset).Executes (frame 0x29 [1]) [] := by decide

/-- ACK 502 of 500 to 503 in flight; of a list with one marked record; duplicates 1 and 128 numbers back, numbers 129
back and just past the marked ones. -/
theorem witness_AckAnswersByItsPlaceInTheList :
    (let s := streaming 4 0 (queued (records 500 4 true ++ records 504 6 false) none 510 State.reset);
      let oldest : Queued := { record := numbered 500, sent := true };
      let newest : Queued := { record := numbered 503, sent := true };
      (asked 0x2A [0x01, 0xF6] s).Executes (frame 0x2A [0x01, 0xF6]) []
        ∧ (502 : Word16) = BitVec.ofNat 16 (0x01 * 256 + 0xF6) ∧ s.stream.state = .on
        ∧ s.queue.list = records 500 4 true ++ records 504 6 false
        ∧ records 500 4 true = oldest :: records 501 2 true ++ [newest]
        ∧ (∀ e ∈ records 500 4 true, e.sent = true) ∧ (∀ e ∈ records 504 6 false, e.sent = false)
        ∧ s.stream.inFlight ≤ (records 500 4 true).length
        ∧ seqDistance oldest.record.seq 502 ≤ seqDistance oldest.record.seq newest.record.seq ∧ s.queue.staged = none
        ∧ s.queue.oldestSeq = 500
        ∧ (1 ≤ seqDistance 499 500 ∧ seqDistance 372 500 ≤ 128 ∧ 128 < seqDistance 371 500)
        ∧ seqDistance 500 newest.record.seq < seqDistance 500 504 ∧ seqDistance 500 newest.record.seq < seqDistance 500 499)
      ∧ records 500 1 true = [{ record := numbered 500, sent := true }]
      ∧ (∀ c ∈ [Continuation.nextSample, .redoStep, .nextStep, .endPass],
        let s := streaming 4 0 (queued (records 500 4 true ++ records 504 6 false) (some (numbered 510)) 511 (heldAt c));
        (asked 0x2A [0x01, 0xF6] s).Executes (frame 0x2A [0x01, 0xF6]) [] ∧ s.stream.state = .on
          ∧ s.queue.staged ≠ none ∧ s.seq.scan = .held ∧ s.seq.cont = some c)
      ∧ (asked 0x2A [0] State.reset).Executes (frame 0x2A [0]) []
      ∧ ((asked 0x2A [0, 0] State.reset).Executes (frame 0x2A [0, 0]) [] ∧ State.reset.stream.state ≠ .on) := by decide

theorem witness_RetransmitExpiryReturnsTheInFlightRecords : State.reset.pins.resetLow = false
    ∧ State.reset.stream.timer = none
    ∧ ((streaming 3 6 (queued (records 1 3 true) none 4 State.reset)).stream.timer = some 0
      ∧ (streaming 3 6 (queued (records 1 3 true) none 4 State.reset)).stream.timeouts + 1 < 8)
    ∧ (8 ≤ (streaming 3 7 (queued (records 1 3 true) none 4 State.reset)).stream.timeouts + 1
      ∧ (queued (records 1 3 true) none 4 State.reset).queue.list
          = { record := numbered 1, sent := true } :: records 2 2 true) := by decide

/-- The event table after one raise and at the highest count. -/
theorem witness_RaiseCountsIntoItsEntry : (State.reset.events.get .mark).pending = false
    ∧ ((State.reset.raise .mark 2).events.get .mark).pending = true
    ∧ ((State.reset.raise .mark 2).events.get .mark).count < 255
    ∧ (let t := State.reset.events.set .mark { pending := true, count := 255, detail := 2, due := false };
      (t.get .mark).pending = true ∧ 255 ≤ (t.get .mark).count) ∧ EventKind.trip ≠ .mark := by decide

theorem witness_EventsReadsAndClears : (asked 0x30 [] State.reset).Executes (frame 0x30 []) []
    ∧ (asked 0x30 [0] State.reset).Executes (frame 0x30 [0]) []
    ∧ ((asked 0x30 [0x03, 0xFE] State.reset).Executes (frame 0x30 [0x03, 0xFE]) []
      ∧ (0x03FE : Word16) = (0x03 : Byte) ++ (0xFE : Byte)
      ∧ (0x03FE : Word16).getLsbD 0 = false ∧ (0x03FE : Word16) >>> 10 = 0)
    ∧ ((asked 0x30 [0x04, 0x00] State.reset).Executes (frame 0x30 [0x04, 0x00]) []
      ∧ ((0x04 : Byte) ++ (0x00 : Byte) : Word16).getLsbD 10 = true) := by decide

theorem witness_SubscribeReplacesTheSet :
    (asked 0x31 [0] State.reset).Executes (frame 0x31 [0]) [] ∧
    ((asked 0x31 [0x03, 0xFE] State.reset).Executes (frame 0x31 [0x03, 0xFE]) []
      ∧ (0x03FE : Word16) = (0x03 : Byte) ++ (0xFE : Byte)
      ∧ (0x03FE : Word16).getLsbD 0 = false ∧ (0x03FE : Word16) >>> 10 = 0)
    ∧ ((asked 0x31 [0x00, 0x01] State.reset).Executes (frame 0x31 [0x00, 0x01]) []
      ∧ ((0x00 : Byte) ++ (0x01 : Byte) : Word16).getLsbD 0 = true) := by decide

/-- The tap of chapter 8 at 4,215,000 and, TRIPPED, at 4,170,000 and at 4,150,000, the edge of its band. -/
theorem witness_EvaluationFollowsTheTripTable :
    (let w : Window := { low := 3000000, high := 4200000, hysteresis := 50000 };
      (tap .clear .latched).table[(4 : Fin 24)].window = some w ∧ windowLegal w = true
        ∧ (tap .clear .latched).table[(4 : Fin 24)].trip = .clear
        ∧ (tap .tripped .follow).table[(4 : Fin 24)].trip = .tripped
        ∧ ((tapped 4215000).flags.overrange = true ∨ (tapped 4215000).value < w.low ∨ w.high < (tapped 4215000).value)
        ∧ ¬((tapped 4170000).flags.overrange = true ∨ (tapped 4170000).value < w.low ∨ w.high < (tapped 4170000).value)
        ∧ ¬((tapped 4170000).value ≤ w.high - w.hysteresis)
        ∧ ((tapped 4150000).flags.overrange = false ∧ w.low + w.hysteresis ≤ (tapped 4150000).value
          ∧ (tapped 4150000).value ≤ w.high - w.hysteresis)
        ∧ (tapped 4150000).flags.skipped = false)
      ∧ (tap .clear .latched).table[(0 : Fin 24)].window = none := by decide

theorem witness_TripControlSetsModeOrClearsLatch :
    (asked 0x32 [0] (tap .tripped .latched)).Executes (frame 0x32 [0]) []
      ∧ (asked 0x32 [1] (tap .tripped .follow)).Executes (frame 0x32 [1]) []
      ∧ ((asked 0x32 [2] (tap .tripped .latched)).Executes (frame 0x32 [2]) []
        ∧ (tap .tripped .latched).limit.mode = .latched)
      ∧ ((asked 0x32 [2] (tap .tripped .follow)).Executes (frame 0x32 [2]) []
        ∧ (tap .tripped .follow).limit.mode = .follow)
      ∧ (asked 0x32 [3] State.reset).Executes (frame 0x32 [3]) [] ∧ 2 < (3 : Byte).toNat
      ∧ (asked 0x32 [] State.reset).Executes (frame 0x32 []) [] := by decide

theorem witness_ConverterRunsItsPhases :
    (zeroing .fast).pins.resetLow = false ∧ State.reset.conv.phase ≠ .zero ∧ State.reset.conv.phase ≠ .integrate
      ∧ (zeroing .fast).conv.phase = .zero ∧ (zeroing .fast).conv.mode = some .fast
      ∧ (let s := nextOf .zeroEnd (zeroing .fast);
        s.conv.phase = .integrate ∧ s.conv.mode = some .fast ∧ s.conv.function = some .volt
          ∧ s.matrix.selection = some (.volt, 1)) := by decide

theorem witness_ConversionTakesItsTicks :
    (zeroing .normal).seq.scan ≠ .idle ∧ (zeroing .normal).conv.ticks = 0
      ∧ exec .zeroEnd (zeroing .normal) = .next (nextOf .zeroEnd (zeroing .normal))
      ∧ (nextOf (.integrateEnd { microvolts := 2199900, ohms := .openPoint }) (nextOf .zeroEnd (zeroing .normal))).conv.crossing
          = some 4399
      ∧ (nextOf (.integrateEnd { microvolts := 2200000, ohms := .openPoint }) (nextOf .zeroEnd (zeroing .normal))).conv.crossing
          = none := ⟨by decide, by decide, rfl, by decide, by decide⟩

/-- The same scan with a full list. -/
def full (s : State) : State := queued (List.replicate 128 { record := numbered 1, sent := false }) none 2 s

/-- A VOLT channel on range 1 with a window. -/
def windowed : Channel :=
  { volt (.fixed 1) 1 with window := some { low := -1000000, high := 1000000, hysteresis := 50000 } }

/-- A conversion that crosses, and one that does not, each with its one outcome. -/
theorem witness_Delivers (scan : ScanState) (c : Channel) (st : Step) (range m : Nat) :
    (measuring scan c st range (some m)).Delivers .normal .deintegrateCrossing m false m
      ∧ (measuring scan c st range none).Delivers .normal .deintegrateLimit 4400 true 4400 :=
  ⟨⟨rfl, .inl ⟨rfl, rfl, m, rfl, rfl, by simp [measuring, converting]⟩⟩, ⟨rfl, .inr ⟨rfl, rfl, rfl, rfl, rfl⟩⟩⟩

set_option maxRecDepth 8000 in
/-- A fixed-range EACH sample in RUNNING and PAUSING, crossing and at the limit, on a list with room and on a full one; its
last sample, with a window; and an AUTO sample with HUNT in PAUSING. The outcomes are those of `witness_Delivers`. -/
theorem witness_FixedRangeSampleMakesARecord :
    (let s := measuring .running (volt (.fixed 1) 1) (stepOf 3 false false) 1 (some 2468);
      s.ConvertsFor (stepOf 3 false false) 1 ∧ s.table[(0 : Fin 24)].range = .fixed 1 ∧ s.seq.sample < 3
        ∧ s.table[(0 : Fin 24)].window = none ∧ s.seq.scan = .running ∧ s.queue.list.length < 128
        ∧ s.Accepts (stepOf 3 false false) 1 2468 false false)
      ∧ (let s := measuring .pausing (volt (.fixed 1) 1) (stepOf 3 false false) 1 none;
        s.ConvertsFor (stepOf 3 false false) 1 ∧ s.seq.scan = .pausing ∧ s.queue.list.length < 128)
      ∧ (let s := full (measuring .running (volt (.fixed 1) 1) (stepOf 3 false false) 1 (some 2468));
        s.ConvertsFor (stepOf 3 false false) 1 ∧ s.table[(0 : Fin 24)].range = .fixed 1
          ∧ s.table[(0 : Fin 24)].window = none ∧ s.seq.sample < 3 ∧ s.seq.scan = .running
          ∧ 128 ≤ s.queue.list.length ∧ s.settings.policy = .stall)
      ∧ (let s := full (measuring .pausing (volt (.fixed 1) 1) (stepOf 3 false false) 1 (some 2468));
        s.ConvertsFor (stepOf 3 false false) 1 ∧ s.seq.scan = .pausing ∧ 128 ≤ s.queue.list.length
          ∧ s.settings.policy = .stall)
      ∧ (let s := measuring .running windowed (stepOf 1 false true) 1 none;
        s.ConvertsFor (stepOf 1 false true) 1 ∧ s.Accepts (stepOf 1 false true) 1 4400 true false ∧ 1 ≤ s.seq.sample)
      ∧ (let s := measuring .pausing (volt .auto 2) (stepOf 3 false false) 2 (some 359);
        s.ConvertsFor (stepOf 3 false false) 2 ∧ s.Accepts (stepOf 3 false false) 2 359 false true) :=
  ⟨by decide, by decide, by decide, by decide, by decide, by decide⟩

/-- Counts 360 on range 1, 24 on range 0, 359 on range 3 after four changes; an overrange on the highest range, on range 2
after four changes, and in PAUSING, where 359 is accepted too. -/
theorem witness_AutoSampleIsAcceptedOnItsRange :
    (let s := measuring .running (volt .auto 3) (stepOf 3 false false) 1 (some 360);
      s.ConvertsFor (stepOf 3 false false) 1 ∧ s.table[(0 : Fin 24)].range = .auto ∧ s.seq.sample < 3
        ∧ s.table[(0 : Fin 24)].window = none ∧ s.queue.list.length < 128 ∧ 360 ≤ (360 : Int).natAbs)
      ∧ (measuring .running (volt .auto 3) (stepOf 3 false false) 0 (some 24)).ConvertsFor (stepOf 3 false false) 0
      ∧ (let s := (measuring .running (volt .auto 3) (stepOf 3 false false) 3 (some 359)).withRanging
            { sampleRange := some 3, changes := 4, lock := none };
        s.ConvertsFor (stepOf 3 false false) 3 ∧ 4 ≤ s.ranging.changes ∧ (359 : Int).natAbs < 360)
      ∧ (let s := measuring .running (volt .auto 2) (stepOf 3 false false) 3 none;
        s.ConvertsFor (stepOf 3 false false) 3 ∧ highestRange s.table[(0 : Fin 24)].function ≤ 3
          ∧ s.table[(0 : Fin 24)].remembered ≠ 3)
      ∧ (let s := (measuring .running (volt .auto 2) (stepOf 3 false false) 2 none).withRanging
            { sampleRange := some 2, changes := 4, lock := none };
        s.ConvertsFor (stepOf 3 false false) 2 ∧ 4 ≤ s.ranging.changes ∧ 2 < highestRange s.table[(0 : Fin 24)].function
          ∧ s.table[(0 : Fin 24)].remembered = 2)
      ∧ (let s := measuring .pausing (volt .auto 2) (stepOf 3 false false) 2 none;
        s.ConvertsFor (stepOf 3 false false) 2 ∧ s.seq.scan = .pausing ∧ WantsChange .volt 2 4400 true)
      ∧ (let s := measuring .pausing (volt .auto 2) (stepOf 3 false false) 2 (some 359);
        s.ConvertsFor (stepOf 3 false false) 2 ∧ WantsChange .volt 2 359 false ∧ ¬WantsChange .volt 2 360 false) :=
  ⟨by decide, by decide, by decide, by decide, by decide, by decide, by decide⟩

theorem witness_AutoRangeMovesOneRangeAtATime :
    (let s := measuring .running (volt .auto 3) (stepOf 3 false false) 2 none;
      s.ConvertsFor (stepOf 3 false false) 2 ∧ s.conv.crossing = none ∧ s.seq.scan = .running
        ∧ s.table[(0 : Fin 24)].range = .auto ∧ s.ranging.changes < 4 ∧ 2 < highestRange s.table[(0 : Fin 24)].function)
      ∧ (let s := (measuring .running (volt .auto 3) (stepOf 3 true false) 1 (some 359)).withRanging
            { sampleRange := some 1, changes := 3, lock := none };
        s.ConvertsFor (stepOf 3 true false) 1 ∧ s.ranging.lock = none ∧ (359 : Int).natAbs < 360 ∧ s.ranging.changes < 4) := by
  decide

/-- A fixed range; on AUTO the first sample, which wants a change in PAUSING, and a later one on the step lock; and last
samples. -/
theorem witness_MeanStepRecordsTheTruncatedMean :
    (let s := measuring .running (volt (.fixed 1) 1) (stepOf 2 true false) 1 (some 2468);
      s.ConvertsFor (stepOf 2 true false) 1 ∧ s.seq.scan = .running ∧ s.table[(0 : Fin 24)].range = .fixed 1
        ∧ s.ranging.lock = none ∧ s.seq.sample < 2 ∧ s.Accepts (stepOf 2 true false) 1 2468 false false)
      ∧ (let s := measuring .running (volt (.fixed 1) 1) (stepOf 1 true false) 1 (some 2468);
        s.ConvertsFor (stepOf 1 true false) 1 ∧ s.seq.sample = 1 ∧ s.queue.list.length + s.list.length < 128)
      ∧ (let s := measuring .running (volt .auto 1) (stepOf 2 true false) 1 (some 2468);
        s.ConvertsFor (stepOf 2 true false) 1 ∧ s.Accepts (stepOf 2 true false) 1 2468 false false ∧ s.ranging.lock = none
          ∧ s.seq.sample < 2)
      ∧ (let s := measuring .pausing (volt .auto 1) (stepOf 2 true false) 1 none;
        s.ConvertsFor (stepOf 2 true false) 1 ∧ s.Accepts (stepOf 2 true false) 1 4400 true true ∧ s.seq.scan = .pausing)
      ∧ (let s := (measuring .running (volt .auto 3) (stepOf 1 true false) 1 (some 12)).withRanging
            { sampleRange := some 1, changes := 0, lock := some 1 };
        s.ConvertsFor (stepOf 1 true false) 1 ∧ s.Accepts (stepOf 1 true false) 1 12 false false
          ∧ s.ranging.lock = some 1 ∧ 1 ≤ s.seq.sample) :=
  ⟨by decide, by decide, by decide, by decide, by decide⟩

/-- A connection in place on range 1, asked for the same and for another; BREAK with a settle time and with 0. -/
theorem witness_MatrixBreaksBeforeItMakes :
    State.reset.rail.state ≠ .ready ∧ (running.rail.state = .ready ∧ running.matrix.phase = .opened)
      ∧ (let s := { measuring .running (volt .auto 1) (stepOf 3 false false) 1 none with conv := Converter.idle };
        s.rail.state = .ready ∧ s.matrix.phase = .connected ∧ s.matrix.channel = some 0
          ∧ s.matrix.selection = some (.volt, 1) ∧ s.conv.phase = .idle
          ∧ s.currentStep = some (stepOf 3 false false) ∧ s.matrix.channel ≠ some 1)
      ∧ (let s := measuring .running (volt .auto 1) (stepOf 3 false false) 1 none;
        s.rail.state = .ready ∧ s.matrix.phase = .connected ∧ s.matrix.channel = some 0
          ∧ s.matrix.selection = some (.volt, 1) ∧ s.conv.phase ≠ .idle)
      ∧ (let s := { breaking 0 with conv := converting none .positive };
        s.conv.phase ≠ .idle ∧ s.matrix.phase = .breaking ∧ s.pins.resetLow = false
          ∧ s.matrix.target = some { channel := 0, function := .volt, range := 3, settle := 0 })
      ∧ (let s := (nextOf .breakEnd (breaking 5)).withSeq Sequencer.reset;
        s.seq.scan ≠ .running ∧ s.seq.scan ≠ .pausing ∧ s.matrix.phase = .settling ∧ s.pins.resetLow = false
          ∧ s.matrix.target = some { channel := 0, function := .volt, range := 3, settle := 5 })
      ∧ ((breaking 5).matrix.phase = .breaking
        ∧ (breaking 5).matrix.target = some { channel := 0, function := .volt, range := 3, settle := 5 })
      ∧ ((breaking 0).pins.resetLow = false ∧ (breaking 0).conv.phase = .idle
        ∧ (breaking 0).currentStep = some (stepOf 3 false false))
      ∧ (let s := nextOf .breakEnd (breaking 5); s.matrix.phase = .settling ∧ s.conv.phase = .idle
        ∧ s.matrix.target = some { channel := 0, function := .volt, range := 3, settle := 5 }) := by decide

theorem witness_RailStartsHoldsAndFaults :
    starting.rail.state = .starting ∧ starting.rail.startTimer = some 0 ∧ starting.seq.scan ≠ .idle
      ∧ State.reset.rail.state ≠ .starting ∧ State.reset.rail.state ≠ .ready
      ∧ (let s := State.reset.withRail { Rail.off with state := .ready, holdTimer := some 0 };
        s.rail.state = .ready ∧ s.rail.holdTimer = some 0 ∧ s.seq.scan = .idle ∧ s.pins.resetLow = false)
      ∧ running.rail.state = .ready ∧ running.rail.holdTimer = none := by decide

/-- Short of each condition, with all three at the last pass number, and with a disabled first step of two, in a TRIGGERED
scan with no last pass, on a full list. -/
theorem witness_PassStartsWhenRailAndPaceAreReady :
    (let s := { inState .armed with seq := { Sequencer.reset with scan := .armed, pass := 65535, clockMs := 1 } };
      s.pins.resetLow = false ∧ s.seq.scan = .armed ∧ s.rail.state = .ready ∧ s.settings.pace = .free
        ∧ s.seq.clockMs ≠ s.seq.passStart ∧ s.list = stepOf 3 false false :: [stepOf 3 false false]
        ∧ s.table[(0 : Fin 24)].enabled = true ∧ s.matrix.phase = .opened ∧ s.ranging.lock = none ∧ s.seq.pass ≤ 65535)
      ∧ running.seq.scan ≠ .armed ∧ starting.rail.state ≠ .ready
      ∧ (let s := { full (scanning .armed Channel.reset (stepOf 3 false true)) with
          settings := { Settings.reset with pace := .triggered, passes := 0 }
          seq := { Sequencer.reset with scan := .armed, pass := 7, latch := true } };
        s.pins.resetLow = false ∧ s.seq.scan = .armed ∧ s.rail.state = .ready ∧ s.settings.pace = .triggered
          ∧ s.seq.latch = true ∧ s.seq.pass ≤ 65535 ∧ s.list.length = 2 ∧ s.table[(0 : Fin 24)].enabled = false)
      ∧ (let s := { inState .armed with seq := { Sequencer.reset with scan := .armed, pass := 1 } };
        decide (s.seq.pass = 0 ∨ s.seq.clockMs ≠ s.seq.passStart) = false) := by decide

theorem witness_DisabledChannelGivesOneSkippedRecord :
    (let s := { scanning .armed Channel.reset (stepOf 1 false true) with
        list := [stepOf 1 false true], seq := { Sequencer.reset with scan := .armed } };
      s.pins.resetLow = false ∧ s.seq.scan = .armed ∧ s.rail.state = .ready ∧ s.seq.pass = 0 ∧ s.settings.pace = .free
        ∧ s.settings.passes = s.seq.passesDone + 1 ∧ s.settings.passes ≤ 65535 ∧ s.list = [stepOf 1 false true]
        ∧ s.table[(0 : Fin 24)].enabled = false ∧ s.queue.list.length < 128) := by decide

theorem witness_PaceTimerAndScanClockRunOut :
    (State.reset.pins.resetLow = false ∧ State.reset.seq.paceTimer = none ∧ State.reset.seq.scan = .idle
      ∧ ((timed 3).seq.paceTimer = some 0 ∧ (timed 3).withinPass = true ∧ (timed 3).settings.passes ≠ 0
        ∧ (timed 3).seq.passesDone + 1 = (timed 3).settings.passes)
      ∧ ((timed 0).withinPass = true ∧ (timed 0).settings.passes = 0)
      ∧ (let s := (timed 3).withSeq { (timed 3).seq with scan := .armed };
        s.seq.scan = .armed ∧ s.seq.paceTimer = some 0)
      ∧ State.reset.pending = [] ∧ (nextOf (.resetNLow true false) State.reset).pins.resetLow = true)
    ∧ ∀ top t n : Nat, (top ≤ t → tickTo top n t = t) ∧ (t ≤ top → tickTo top n t = min (t + n) top) :=
  ⟨by decide, fun top t n => by unfold tickTo; constructor <;> intro h <;> split <;> omega⟩

set_option maxRecDepth 8000 in
/-- Each continuation, with the matrix open and with it connected on the range of the sample and on another, channels
enabled and disabled, and a limited and an unlimited scan. -/
theorem witness_ContinuationsAreTaken :
    (let s := (scanning .running (volt .auto 3) (stepOf 3 false false)).withRanging
          { sampleRange := some 2, changes := 3, lock := none };
      s.currentStep = some (stepOf 3 false false) ∧ s.ranging.sampleRange = some 2 ∧ s.matrix.phase = .opened
        ∧ s.rail.state = .ready ∧ s.seq.scan = .running ∧ s.conv.phase = .idle ∧ s.table[(0 : Fin 24)].enabled = true)
      ∧ (let s := { measuring .running (volt (.fixed 1) 1) (stepOf 3 false false) 1 none with conv := Converter.idle };
        s.currentStep = some (stepOf 3 false false) ∧ s.conv.phase = .idle ∧ s.matrix.phase = .connected
          ∧ s.matrix.channel = some 0 ∧ s.matrix.selection = some (.volt, 1) ∧ s.matrix.selection ≠ some (.volt, 2))
      ∧ (let s := scanning .running Channel.reset (stepOf 3 false true);
        s.currentStep = some (stepOf 3 false true) ∧ s.table[(0 : Fin 24)].enabled = false ∧ s.seq.scan = .running
          ∧ s.queue.list.length < Config.queueDepth ∧ Config.queueDepth ≤ (full s).queue.list.length
          ∧ (full s).settings.policy = .stall)
      ∧ (running.settings.passes ≠ 0 ∧ running.settings.passes ≤ min (running.seq.passesDone + 1) 65535)
      ∧ ((timed 0).settings.passes = 0 ∧ min ((timed 4).seq.passesDone + 1) 65535 < (timed 4).settings.passes
        ∧ (inState .pausing).seq.scan = .pausing) :=
  ⟨by decide, by decide, by decide, by decide, by decide⟩

/-- Every law holds of the reset state, and a step from there answers a next state. -/
theorem witness_StepKeepsEveryLaw : Lawful State.reset ∧ CacheLaw State.reset ∧ ReplyLaw State.reset
    ∧ step State.reset = .next State.reset.tick :=
  ⟨⟨by decide, by decide, by decide, by decide, by decide, by decide,
    ⟨by decide, by decide, by decide, by decide⟩, by decide, by decide, by decide⟩, by decide, by decide, rfl⟩

/-- The laws also hold in the middle of a sample, with a record and an event, so the invariants speak of more than
reset. -/
theorem witness_laws_hold_in_a_running_scan :
    Lawful ((measuring .running (volt (.fixed 1) 1) (stepOf 3 false false) 1 (some 2468)).raise .mark 2) :=
  ⟨by decide, by decide, by decide, by decide, by decide, by decide,
    ⟨by decide, by decide, by decide, by decide⟩, by decide, by decide, by decide⟩

theorem witness_StepKeepsTheLinkLaws :
    (let s := waiting 4 (hearing (.check 62 (List.replicate 62 0) [0x29]) 4); LinkLaw s ∧ CacheLaw s ∧ ReplyLaw s)
      ∧ (exec (.goodCharacter 0xB1) (hearing (.check 2 [1, 1] [0x29]) 4)
        = .next (nextOf (.goodCharacter 0xB1) (hearing (.check 2 [1, 1] [0x29]) 4))) := ⟨by decide, rfl⟩

theorem witness_StepKeepsTheEventAndLineLaws :
    EventLaw ((State.reset.withEvents (.cleared 0x03FE)).raise .mark 5) ∧ LineLaw (tap .tripped .follow)
      ∧ step (tap .tripped .follow) = .next (tap .tripped .follow).tick := ⟨by decide, by decide, rfl⟩

/-- Four in flight under W = 4, and four returned records behind a stall. -/
theorem witness_StepKeepsTheStreamLaw :
    StreamLaw (streaming 4 7 (queued (records 500 4 true ++ records 504 2 false) none 506 State.reset))
      ∧ StreamLaw ((queued (records 500 4 true) none 504 State.reset).withStream
          { state := .stalled, window := 4, inFlight := 0, timer := none, timeouts := 8 })
      ∧ step (streaming 4 7 State.reset) = .next (streaming 4 7 State.reset).tick := ⟨by decide, by decide, rfl⟩

theorem witness_IdealCountIsTheTruncatedRatio :
    (4 : Nat) ≤ highestRange .ohms ∧ (400 : Nat) = (if Mode.fast = .fast then 400 else 4000)
      ∧ (440 : Nat) = (if Mode.fast = .fast then 440 else 4400) ∧ MeasFunction.volt ≠ .ohms
      ∧ (0 : Rat) ≤ 6250 ∧ ({ microvolts := 0, ohms := .resistance 6250 } : MeanInput).ohms = .resistance 6250
      ∧ ({ microvolts := 0, ohms := .openPoint } : MeanInput).ohms = .openPoint := by decide

end Sys2Proof.Tests
end

section
namespace Sys2Proof.Machine

/-! PROOFS. The reset state: its values and its laws. -/

/-- Every channel record starts in its starting state (R12). -/
@[simp] theorem State.reset_table (n : Fin 24) : State.reset.table[n] = Channel.reset := by
  simp [State.reset]

/-- Every entry of a cleared event table is the empty one (R158). -/
@[simp] theorem EventTable.get_cleared (m : Word16) (k : EventKind) : (EventTable.cleared m).get k = .empty := by
  cases k <;> rfl

theorem linkLaw_reset : LinkLaw State.reset := by decide

theorem eventLaw_reset : EventLaw State.reset := by
  refine ⟨fun k _ => ?_, rfl⟩
  simp [State.reset, EntryLaw, EventEntry.empty]

theorem lineLaw_reset : LineLaw State.reset := rfl

theorem streamLaw_reset : StreamLaw State.reset := by decide

theorem pathLaw_reset : PathLaw State.reset := ⟨by decide, by decide, by decide, by decide⟩

theorem progressLaw_reset : ProgressLaw State.reset := by decide

/-- The starting record holds only values its fields allow (R12). -/
theorem channelLaw_reset : ChannelLaw Channel.reset := by decide

/-- No step of an empty list is current, so only the channel records are to be looked at (R12, R59). -/
theorem rangeLaw_reset : RangeLaw State.reset := by
  refine ⟨fun n => ?_, by decide, fun _ => rfl, fun _ => rfl, fun st hst => ?_⟩
  · rw [State.reset_table]; exact channelLaw_reset
  · simp [State.currentStep, State.reset] at hst

theorem lawful_reset : Lawful State.reset :=
  ⟨linkLaw_reset, eventLaw_reset, lineLaw_reset, by decide, by decide, streamLaw_reset, pathLaw_reset,
    progressLaw_reset, rangeLaw_reset, by decide⟩

/-- Settles O4: the values are those of the reset blocks, and each law was looked at by itself. -/
theorem resetStateIsLawfulAndHoldsTheGuidesValues : Obligations.ResetStateIsLawfulAndHoldsTheGuidesValues := by
  refine ⟨⟨State.reset_table, rfl, rfl, rfl, rfl, rfl, rfl, rfl, rfl, rfl, rfl, rfl, rfl, rfl, rfl, rfl, rfl, rfl,
    rfl, rfl, EventTable.get_cleared 0, rfl, rfl⟩, lawful_reset, by decide, by decide⟩

end Sys2Proof.Machine
end

section
namespace Sys2Proof.Machine

/-! PROOFS. The ranges and the ideal count of a mean input. -/

/-- The ideal magnitude is the raw full scale times the magnitude of the quantity over the full scale, truncated: the
quotient of whole numbers is that of the fraction in lowest terms (R31, R32). -/
theorem idealMagnitude_eq_floor (m : Mode) (f : MeasFunction) (range : Nat) (q : ℚ) :
    idealMagnitude m f range q = ⌊(rawFullScale m : ℚ) * |q| / (fullScale f range : ℚ)⌋₊ := by
  have magnitude : |q| = (q.num.natAbs : ℚ) / (q.den : ℚ) := by
    rw [Rat.abs_def, Rat.divInt_eq_div]; simp
  have ratio : (rawFullScale m : ℚ) * |q| / (fullScale f range : ℚ)
      = ((rawFullScale m * q.num.natAbs : ℕ) : ℚ) / ((q.den * fullScale f range : ℕ) : ℚ) := by
    rw [magnitude, mul_div_assoc', div_div]; push_cast; rfl
  rw [ratio, Nat.floor_div_eq_div]; rfl

/-- The comparator crosses at the truncated ratio, when that lies below the limit of the mode (R31). -/
theorem crossingAt_idealMagnitude {m : Mode} {raw limit : Nat} (hraw : raw = if m = .fast then 400 else 4000)
    (hlimit : limit = if m = .fast then 440 else 4400) (f : MeasFunction) (range : Nat) (q : ℚ) :
    crossingAt m (idealMagnitude m f range q)
      = if ⌊(raw : ℚ) * |q| / (fullScale f range : ℚ)⌋₊ < limit
        then some ⌊(raw : ℚ) * |q| / (fullScale f range : ℚ)⌋₊ else none := by
  have hr : raw = rawFullScale m := by cases m <;> exact hraw
  have hl : limit = deintegrateTicks m := by cases m <;> exact hlimit
  rw [hr, hl, ← idealMagnitude_eq_floor]; rfl

/-- Settles O45: the table of the ranges is read off, and every crossing is the truncated ratio's. -/
theorem idealCountIsTheTruncatedRatio : Obligations.IdealCountIsTheTruncatedRatio := by
  refine ⟨⟨rfl, rfl, rfl, rfl, rfl, rfl, rfl, rfl, rfl, rfl, rfl, rfl, rfl, rfl,
    fun _ _ _ => rfl, fun _ => ⟨rfl, rfl⟩⟩, ?_⟩
  intro md f range input raw limit hraw hlimit
  have crosses := crossingAt_idealMagnitude hraw hlimit
  refine ⟨fun hf => ?_, fun x hx hin => ?_, fun hin => ?_⟩
  · cases f with
    | volt => exact crosses .volt range input.microvolts
    | curr => exact crosses .curr range input.microvolts
    | ohms => exact absurd rfl hf
  · have nonneg : ¬ x.num < 0 := not_lt.mpr (Rat.num_nonneg.mpr hx)
    have resistance : idealCrossing md .ohms range input = crossingAt md (idealMagnitude md .ohms range x) := by
      simp [idealCrossing, hin, nonneg]
    rw [resistance, crosses, abs_of_nonneg hx]
  · rcases hin with h | h <;> simp [idealCrossing, h]

end Sys2Proof.Machine
end

section
namespace Sys2Proof.Machine

/-! PROOFS. What a payload's bytes mean: its numbers, its channel, and the field values of a CHANNEL_SET. -/

/-! ## The numbers of a payload -/

/-- A byte behind some bytes is read at their number. -/
theorem field8_append (before : List Byte) (b : Byte) (after : List Byte) :
    field8 (before ++ b :: after) before.length = b.toNat := by
  simp [field8]

/-- Four bytes are read high byte first (R192). -/
theorem field32_append (before : List Byte) (b3 b2 b1 b0 : Byte) (after : List Byte) :
    field32 (before ++ [b3, b2, b1, b0] ++ after) before.length
      = ((b3.toNat * 256 + b2.toNat) * 256 + b1.toNat) * 256 + b0.toNat := by
  have at1 := field8_append (before ++ [b3]) b2 (b1 :: b0 :: after)
  have at2 := field8_append (before ++ [b3, b2]) b1 (b0 :: after)
  have at3 := field8_append (before ++ [b3, b2, b1]) b0 after
  have at0 := field8_append before b3 (b2 :: b1 :: b0 :: after)
  simp only [List.append_assoc, List.length_append, List.length_cons, List.length_nil, List.cons_append,
    List.nil_append, Nat.zero_add, Nat.reduceAdd] at at0 at1 at2 at3 ⊢
  rw [field32, field16, field16, at0, at1, at2, Nat.add_assoc, at3]
  omega

/-- A four-byte number is negative from 80000000h on (R192). -/
theorem signedField32_eq (p : List Byte) (off : Nat) (h : field32 p off < 4294967296) :
    signedField32 p off = (field32 p off : Int) - (if 2147483648 ≤ field32 p off then 4294967296 else 0) := by
  rw [signedField32, BitVec.toInt_eq_toNat_cond, BitVec.toNat_ofNat, Nat.mod_eq_of_lt h]
  split <;> split <;> omega

/-- The bytes of a whole number are read back as the number (R192). -/
theorem field32_bytes32 (before after : List Byte) {n : Nat} (h : n < 4294967296) :
    field32 (before ++ bytes32 n ++ after) before.length = n := by
  rw [bytes32, field32_append]
  simp only [byteOf, BitVec.toNat_ofNat]
  omega

/-- The two's complement bytes of a number are read back as the number (R192). -/
theorem signedField32_signedBytes32 (before after : List Byte) {i : Int} (low : -2147483648 ≤ i)
    (high : i ≤ 2147483647) :
    signedField32 (before ++ signedBytes32 i ++ after) before.length = i := by
  rw [signedField32, signedBytes32, field32_bytes32 before after (BitVec.isLt _), BitVec.ofNat_toNat,
    BitVec.setWidth_eq, BitVec.toInt_ofInt_eq_self (by decide) low (by omega)]

theorem byteOf_toNat {n : Nat} (h : n < 256) : (byteOf n).toNat = n := by
  rw [byteOf, BitVec.toNat_ofNat]; exact Nat.mod_eq_of_lt h

/-! ## The channel number of a payload -/

theorem channelOf_of_lt {n : Nat} (h : n < 24) : channelOf n = some ⟨n, h⟩ := dif_pos h

theorem channelOf_of_ge {n : Nat} (h : 24 ≤ n) : channelOf n = none := dif_neg (by omega)

/-- The byte of a channel number names that channel (R1). -/
theorem channelOf_byteOf (n : Fin 24) (p : List Byte) : channelOf (field8 (byteOf n :: p) 0) = some n := by
  have e : field8 (byteOf n :: p) 0 = n := byteOf_toNat (by omega)
  rw [e, channelOf_of_lt n.isLt]

/-! ## What the field values of a CHANNEL_SET mean -/

/-- The function codes are 1 to 3 (R192). -/
theorem MeasFunction.ofCode_eq_none (b : Nat) : MeasFunction.ofCode b = none ↔ b = 0 ∨ 3 < b := by
  match b with
  | 0 | 1 | 2 | 3 => decide
  | n + 4 => exact ⟨fun _ => by omega, fun _ => rfl⟩

/-- The codes of the modes are 0 and 1 (R192). -/
theorem Mode.ofCode_eq_none (b : Nat) : Mode.ofCode b = none ↔ 1 < b := by
  match b with
  | 0 | 1 => decide
  | n + 2 => exact ⟨fun _ => by omega, fun _ => rfl⟩

/-- A range byte is refused when it is neither 80h nor an index of the function's table (R4). -/
theorem decodeRange_eq_none (f : MeasFunction) (b : Nat) :
    decodeRange f b = none ↔ b ≠ 0x80 ∧ highestRange f < b := by
  unfold decodeRange; split <;> simp [*]

/-- The highest range of the function that a code names (R3, R192). -/
theorem highestRange_of_ofCode {b : Nat} {f : MeasFunction} (h : MeasFunction.ofCode b = some f) :
    highestRange f = if b = 1 then 3 else if b = 2 then 1 else 4 := by
  unfold MeasFunction.ofCode at h; split at h <;> cases h <;> rfl

/-- A window that breaks a condition of R8. -/
theorem windowLegal_eq_false (w : Window) :
    windowLegal w = false
      ↔ w.high < w.low ∨ 16000000 < w.hysteresis ∨ w.high - w.low < 2 * (w.hysteresis : Int) := by
  rw [windowLegal, Bool.and_eq_false_iff, Bool.and_eq_false_iff, or_assoc]
  simp

/-- A window is refused for its presence byte, or for its values when it is present (R8, R14). -/
theorem decodeWindow_eq_none (p : List Byte) :
    decodeWindow p = none ↔ 1 < field8 p 5 ∨ (field8 p 5 = 1
      ∧ (signedField32 p 10 < signedField32 p 6 ∨ 16000000 < field32 p 14
        ∨ signedField32 p 10 - signedField32 p 6 < 2 * (field32 p 14 : Int))) := by
  have broken := windowLegal_eq_false
    { low := signedField32 p 6, high := signedField32 p 10, hysteresis := field32 p 14 }
  unfold decodeWindow
  rcases field8 p 5 with _ | _ | k
  · simp
  · simp [← broken]
  · simp

/-- The settings of a payload whose function is known are refused exactly for one of the other field values (R14). -/
theorem decodeChannelSettings_eq_none_of_function {p : List Byte} {f : MeasFunction}
    (h : MeasFunction.ofCode (field8 p 1) = some f) :
    decodeChannelSettings p = none ↔ decodeRange f (field8 p 2) = none ∨ Mode.ofCode (field8 p 3) = none
      ∨ 250 < field8 p 4 ∨ decodeWindow p = none := by
  unfold decodeChannelSettings
  rw [h]
  dsimp only
  cases decodeRange f (field8 p 2) <;> cases Mode.ofCode (field8 p 3) <;> cases decodeWindow p <;> simp

/-- The field values that R14 lists are the ones for which the settings are refused. -/
theorem decodeChannelSettings_eq_none (p : List Byte) :
    decodeChannelSettings p = none ↔ field8 p 1 = 0 ∨ 3 < field8 p 1
      ∨ (field8 p 2 ≠ 0x80 ∧ (if field8 p 1 = 1 then 3 else if field8 p 1 = 2 then 1 else 4) < field8 p 2)
      ∨ 1 < field8 p 3 ∨ 250 < field8 p 4 ∨ 1 < field8 p 5
      ∨ (field8 p 5 = 1 ∧ (signedField32 p 10 < signedField32 p 6 ∨ 16000000 < field32 p 14
        ∨ signedField32 p 10 - signedField32 p 6 < 2 * (field32 p 14 : Int))) := by
  have unnamed := MeasFunction.ofCode_eq_none (field8 p 1)
  cases hf : MeasFunction.ofCode (field8 p 1) with
  | none =>
    have refused : decodeChannelSettings p = none := by simp [decodeChannelSettings, hf]
    rw [← or_assoc, ← unnamed, hf]
    simp [refused]
  | some f =>
    rw [decodeChannelSettings_eq_none_of_function hf, decodeRange_eq_none, Mode.ofCode_eq_none, decodeWindow_eq_none,
      highestRange_of_ofCode hf, ← or_assoc (a := field8 p 1 = 0), ← unnamed, hf]
    simp


/-- The code of the function of a payload is read back as the function (R192, R194). -/
theorem MeasFunction.ofCode_byte (f : MeasFunction) :
    MeasFunction.ofCode (match f with | .volt => (0x01 : Byte) | .curr => 0x02 | .ohms => 0x03).toNat = some f := by
  cases f <;> rfl

theorem Mode.ofCode_byte (m : Mode) :
    Mode.ofCode (match m with | .normal => (0x00 : Byte) | .fast => 0x01).toNat = some m := by
  cases m <;> rfl

/-- No function has more than five ranges, so an index is never taken for 80h (R3). -/
theorem highestRange_le (f : MeasFunction) : highestRange f ≤ 4 := by cases f <;> decide

/-- The byte of a range setting that the function may have is read back as the setting (R4, R194). -/
theorem decodeRange_byte {f : MeasFunction} {r : RangeSetting} (h : r.fits f = true) :
    decodeRange f (match r with | .fixed k => byteOf k | .auto => 0x80).toNat = some r := by
  cases r with
  | auto => rfl
  | fixed k =>
    have fits : k ≤ highestRange f := of_decide_eq_true h
    have few := highestRange_le f
    dsimp only
    rw [byteOf_toNat (by omega), decodeRange, if_neg (by omega), if_pos fits]

/-- The thirteen window bytes of a payload, behind the five bytes before them. -/
def windowBytes (w : Option Window) (unused : List Byte) : List Byte :=
  match w with
  | none => 0x00 :: unused
  | some w => 0x01 :: (signedBytes32 w.low ++ signedBytes32 w.high ++ bytes32 w.hysteresis)

/-- The window of a payload is read back as the window, whatever stands in the bytes of an absent one (R8, R194). -/
theorem decodeWindow_windowBytes (b0 b1 b2 b3 b4 : Byte) (w : Option Window) (unused : List Byte)
    (legal : ∀ x ∈ w, windowLegal x = true ∧ -2147483648 ≤ x.low ∧ x.high ≤ 2147483647) :
    decodeWindow ([b0, b1, b2, b3, b4] ++ windowBytes w unused) = some w := by
  cases w with
  | none => rfl
  | some w =>
    obtain ⟨conditions, low, high⟩ := legal w rfl
    have ordered : w.low ≤ w.high ∧ w.hysteresis ≤ 16000000 := by
      simp only [windowLegal, Bool.and_eq_true, decide_eq_true_eq] at conditions
      exact conditions.1
    have readLow : signedField32 ([b0, b1, b2, b3, b4] ++ windowBytes (some w) unused) 6 = w.low :=
      signedField32_signedBytes32 [b0, b1, b2, b3, b4, 0x01] (signedBytes32 w.high ++ bytes32 w.hysteresis) low
        (by omega)
    have readHigh : signedField32 ([b0, b1, b2, b3, b4] ++ windowBytes (some w) unused) 10 = w.high :=
      signedField32_signedBytes32 ([b0, b1, b2, b3, b4, 0x01] ++ signedBytes32 w.low) (bytes32 w.hysteresis)
        (by omega) high
    have readHyst : field32 ([b0, b1, b2, b3, b4] ++ windowBytes (some w) unused) 14 = w.hysteresis :=
      field32_bytes32 ([b0, b1, b2, b3, b4, 0x01] ++ signedBytes32 w.low ++ signedBytes32 w.high) [] (by omega)
    have present : field8 ([b0, b1, b2, b3, b4] ++ windowBytes (some w) unused) 5 = 1 := rfl
    rw [decodeWindow, present, readLow, readHigh, readHyst]
    exact if_pos conditions

/-- The decoder reads back the settings that a payload was made of (R14, R194). -/
theorem decodeChannelSettings_payload (n : Fin 24) {c : ChannelSettings} (legal : c.Legal) (unused : List Byte) :
    decodeChannelSettings (c.payload n unused) = some c := by
  obtain ⟨fits, settles, window⟩ := legal
  have readFunction : MeasFunction.ofCode (field8 (c.payload n unused) 1) = some c.function :=
    MeasFunction.ofCode_byte c.function
  have readRange : decodeRange c.function (field8 (c.payload n unused) 2) = some c.range := decodeRange_byte fits
  have readMode : Mode.ofCode (field8 (c.payload n unused) 3) = some c.mode := Mode.ofCode_byte c.mode
  have readSettle : field8 (c.payload n unused) 4 = c.settle := byteOf_toNat (by omega)
  have readWindow : decodeWindow (c.payload n unused) = some c.window :=
    decodeWindow_windowBytes _ _ _ _ _ c.window unused window
  rw [decodeChannelSettings, readFunction]
  dsimp only
  rw [readRange, readMode, readWindow, readSettle]
  exact if_pos settles

/-- The payload of a CHANNEL_SET has 18 bytes (R194). -/
theorem ChannelSettings.payload_length (n : Fin 24) (c : ChannelSettings) {unused : List Byte}
    (h : unused.length = 12) : (c.payload n unused).length = 18 := by
  cases hw : c.window with
  | none => simp [ChannelSettings.payload, hw, h]
  | some w => simp [ChannelSettings.payload, hw, signedBytes32, bytes32]

end Sys2Proof.Machine
end

section
namespace Sys2Proof.Machine

/-! PROOFS. What a rewritten channel does to the current step (R101, R102), by scan state. -/

/-- What a change of a channel does to the current step neither reads nor writes the link. -/
theorem State.channelChanged_withLink (n : Fin 24) (s : State) (l : Link) :
    (s.withLink l).channelChanged n = (s.channelChanged n).withLink l := by
  have current : (s.withLink l).currentStep = s.currentStep := rfl
  unfold State.channelChanged
  rw [current]
  cases s.currentStep with
  | none => rfl
  | some st =>
    dsimp only
    split
    · rw [State.withLink_seq]
      cases s.seq.scan with
      | running => exact State.takeContinuation_withLink .redoStep { s with
          conv := .idle, matrix := .opened, ranging := .dropped
          seq := { s.seq with sample := 1, acc := .empty, redo := true, cont := some .redoStep } } l
      | held => cases s.seq.cont with
        | none => rfl
        | some c => cases c <;> rfl
      | paused => cases s.seq.resume with
        | none => rfl
        | some r => cases r with
          | toArmed => rfl
          | within c => cases c <;> rfl
      | _ => rfl
    · rfl

theorem State.channelChanged_leaveInbound (n : Fin 24) (s : State) (rest : List Frame) :
    (s.leaveInbound rest).channelChanged n = (s.channelChanged n).leaveInbound rest := by
  rw [State.leaveInbound, State.leaveInbound, State.channelChanged_withLink, (s.channelChanged_around n).link]

/-- A scan that has no current step on a channel goes on as it was when the channel changes (R101, R102). -/
theorem State.channelChanged_elsewhere {n : Fin 24} {s : State}
    (h : s.seq.scan = .idle ∨ s.seq.scan = .armed ∨ s.seq.scan = .faulted
      ∨ (s.seq.scan = .paused ∧ s.seq.resume = some .toArmed) ∨ ∀ st ∈ s.currentStep, st.channel ≠ n) :
    s.channelChanged n = s := by
  unfold State.channelChanged
  split
  next => rfl
  next st hst =>
    split
    next hn =>
      rcases h with h | h | h | ⟨h, hr⟩ | h
      · rw [h]
      · rw [h]
      · rw [h]
      · rw [h, hr]
      · exact absurd hn (h st hst)
    next => rfl

section
variable {s : State} {st : Step} {n : Fin 24}

/-- In RUNNING the conversion or connection is abandoned and the step starts again (R101). -/
theorem State.channelChanged_running (hst : s.currentStep = some st) (hn : st.channel = n)
    (h : s.seq.scan = .running) :
    s.channelChanged n = State.takeContinuation .redoStep { s with
      conv := .idle, matrix := .opened, ranging := .dropped
      seq := { s.seq with sample := 1, acc := .empty, redo := true, cont := some .redoStep } } := by
  conv_lhs => simp only [State.channelChanged, hst, if_pos hn, h]
  rfl

/-- In PAUSING the scan is PAUSED at the step's start (R101). -/
theorem State.channelChanged_pausing (hst : s.currentStep = some st) (hn : st.channel = n)
    (h : s.seq.scan = .pausing) :
    s.channelChanged n = { s with
      conv := .idle, matrix := .opened, ranging := .dropped
      seq := { s.seq with scan := .paused, sample := 1, acc := .empty, redo := true, cont := none,
                          resume := some (.within .redoStep) } } := by
  conv_lhs => simp only [State.channelChanged, hst, if_pos hn, h]
  rfl

/-- In HELD a step with records still to produce is to be started again (R102). -/
theorem State.channelChanged_held_unfinished (hst : s.currentStep = some st) (hn : st.channel = n)
    (h : s.seq.scan = .held) {c : Continuation} (hc : s.seq.cont = some c) (hu : c.stepUnfinished = true) :
    s.channelChanged n = { s with
      ranging := .dropped, seq := { s.seq with acc := .empty, redo := true, cont := some .redoStep } } := by
  conv_lhs => simp only [State.channelChanged, hst, if_pos hn, h, hc, hu]
  rfl

/-- In HELD a complete step is left alone (R102). -/
theorem State.channelChanged_held_complete (hst : s.currentStep = some st) (hn : st.channel = n)
    (h : s.seq.scan = .held) {c : Continuation} (hc : s.seq.cont = some c) (hu : c.stepUnfinished = false) :
    s.channelChanged n = s := by
  conv_lhs => simp only [State.channelChanged, hst, if_pos hn, h, hc, hu]
  rfl

/-- In PAUSED a step with records still to produce is to be started again (R102). -/
theorem State.channelChanged_paused_unfinished (hst : s.currentStep = some st) (hn : st.channel = n)
    (h : s.seq.scan = .paused) {c : Continuation} (hc : s.seq.resume = some (.within c))
    (hu : c.stepUnfinished = true) :
    s.channelChanged n = { s with
      ranging := .dropped
      seq := { s.seq with acc := .empty, redo := true, resume := some (.within .redoStep) } } := by
  conv_lhs => simp only [State.channelChanged, hst, if_pos hn, h, hc, hu]
  rfl

/-- In PAUSED a complete step is left alone (R102). -/
theorem State.channelChanged_paused_complete (hst : s.currentStep = some st) (hn : st.channel = n)
    (h : s.seq.scan = .paused) {c : Continuation} (hc : s.seq.resume = some (.within c))
    (hu : c.stepUnfinished = false) :
    s.channelChanged n = s := by
  conv_lhs => simp only [State.channelChanged, hst, if_pos hn, h, hc, hu]
  rfl

end

end Sys2Proof.Machine
end

section
namespace Sys2Proof.Machine

/-! PROOFS. The three channel requests: their refusals and effects, what a row answers, CHANNEL_GET and CHANNEL_SET. -/

/-! ## What the three channel requests do -/

section
variable {p : List Byte}

theorem runChannelSet_badLength (h : p.length ≠ 18) (s : State) : runChannelSet p s = refuse .badLength s := if_pos h

theorem runChannelSet_noChannel (h : p.length = 18) (hc : 24 ≤ field8 p 0) (s : State) :
    runChannelSet p s = refuse .noChannel s := by
  rw [runChannelSet, if_neg (not_not_intro h), channelOf_of_ge hc]

theorem runChannelSet_badValue (h : p.length = 18) (hc : field8 p 0 < 24) (hd : decodeChannelSettings p = none)
    (s : State) : runChannelSet p s = refuse .badValue s := by
  rw [runChannelSet, if_neg (not_not_intro h), channelOf_of_lt hc, hd]

theorem runChannelSet_done (h : p.length = 18) {n : Fin 24} (hc : channelOf (field8 p 0) = some n)
    {c : ChannelSettings} (hd : decodeChannelSettings p = some c) (s : State) :
    runChannelSet p s = replyDone [] (((s.setChannel n c.record).updateLine).channelChanged n) := by
  rw [runChannelSet, if_neg (not_not_intro h), hc, hd]

theorem runChannelGet_badLength (h : p.length ≠ 1) (s : State) : runChannelGet p s = refuse .badLength s := if_pos h

theorem runChannelOff_badLength (h : p.length ≠ 1) (s : State) : runChannelOff p s = refuse .badLength s := if_pos h

end

theorem runChannelGet_noChannel {b : Byte} (h : 24 ≤ b.toNat) (s : State) :
    runChannelGet [b] s = refuse .noChannel s := by
  have unnamed : channelOf (field8 [b] 0) = none := channelOf_of_ge h
  rw [runChannelGet, unnamed]; rfl

theorem runChannelGet_done (n : Fin 24) (s : State) :
    runChannelGet [byteOf n] s = replyDone (channelBytes n s.table[n]) s := by
  rw [runChannelGet, channelOf_byteOf n []]; rfl

theorem runChannelOff_noChannel {b : Byte} (h : 24 ≤ b.toNat) (s : State) :
    runChannelOff [b] s = refuse .noChannel s := by
  have unnamed : channelOf (field8 [b] 0) = none := channelOf_of_ge h
  rw [runChannelOff, unnamed]; rfl

/-- The state with a channel disabled and the rest of its record kept (R18). -/
def State.disable (n : Fin 24) (s : State) : State :=
  s.withTable (s.table.set n { s.table[n] with enabled := false })

theorem runChannelOff_done (n : Fin 24) (s : State) :
    runChannelOff [byteOf n] s = replyDone [] ((s.disable n).channelChanged n) := by
  rw [runChannelOff, channelOf_byteOf n []]; rfl

/-! ## What a row answers, by what its request does -/

section
variable {s : State} {kind token : Byte} {p : List Byte} {rest : List Frame} {row : List Byte → Bool}
  {run : List Byte → State → Execution}

/-- A row whose request is refused answers the outcome byte alone and changes nothing else (R181). -/
theorem row_refuses (h : s.Executes { kind := kind, token := token, payload := p } rest) (hrow : row p = true)
    {o : ReplyOutcome} (hrun : ∀ u, run p u = refuse o u) :
    whileLive s (State.serve kind row run)
      = .next (s.answered { kind := kind, token := token, payload := p } rest [o.byte]) := by
  rw [row_of_executes h hrow, hrun, finish_refuse]

/-- A row whose request is done answers DONE with the request's fields, in the state that the request leaves (R181). -/
theorem row_does (h : s.Executes { kind := kind, token := token, payload := p } rest) (hrow : row p = true)
    {t : State} {fields : List Byte} (hrun : run p (s.leaveInbound rest) = replyDone fields (t.leaveInbound rest)) :
    whileLive s (State.serve kind row run)
      = .next (t.answered { kind := kind, token := token, payload := p } rest (0x00 :: fields)) := by
  rw [row_of_executes h hrow, hrun, finish_done]

end

/-- Two replies of different payload leave different states, for the repeat cache holds the last one (R182). -/
theorem State.answered_ne {s t : State} {f : Frame} {rest : List Frame} {p q : List Byte} (h : p ≠ q) :
    s.answered f rest p ≠ t.answered f rest q := by
  intro same
  have cached : (s.answered f rest p).link.cache = (t.answered f rest q).link.cache := by rw [same]
  simp only [State.answered, State.withLink_link, Option.some.injEq, Prod.mk.injEq, Frame.mk.injEq, true_and] at cached
  exact h cached

/-! ## CHANNEL_GET -/

/-- The fields of a CHANNEL_GET reply, each at its offset (R20, R194). -/
theorem channelBytes_eq (n : Fin 24) (c : Channel) : channelBytes n c
    = [byteOf n, if c.enabled then 0x01 else 0x00,
        (match c.function with | .volt => 0x01 | .curr => 0x02 | .ohms => 0x03),
        (match c.range with | .fixed r => byteOf r | .auto => 0x80), (if c.mode = .fast then 0x01 else 0x00),
        byteOf c.settle]
      ++ (match c.window with
          | none => List.replicate 13 0x00
          | some w => 0x01 :: (signedBytes32 w.low ++ signedBytes32 w.high ++ bytes32 w.hysteresis))
      ++ [byteOf c.remembered, if c.trip = .tripped then 0x01 else 0x00] := by
  have function : byteOf c.function.code = (match c.function with | .volt => 0x01 | .curr => 0x02 | .ohms => 0x03) := by
    cases c.function <;> rfl
  have range : byteOf c.range.code = (match c.range with | .fixed r => byteOf r | .auto => 0x80) := by
    cases c.range <;> rfl
  have mode : byteOf c.mode.code = if c.mode = .fast then 0x01 else 0x00 := by cases c.mode <;> rfl
  have trip : byteOf c.trip.code = if c.trip = .tripped then 0x01 else 0x00 := by cases c.trip <;> rfl
  rw [channelBytes, function, range, mode, trip]
  cases c.window <;> rfl

/-- Settles O23, by the three outcomes of the request. -/
theorem channelGetReportsTheRecord : Obligations.ChannelGetReportsTheRecord := by
  intro s token p rest h
  refine ⟨fun hl => ?_, fun b hb hge => ?_, fun n hn => ?_⟩
  · exact row_refuses h rfl (runChannelGet_badLength hl)
  · subst hb
    exact row_refuses h rfl (runChannelGet_noChannel hge)
  · subst hn
    have fields := channelBytes_eq n s.table[n]
    have reply := row_does (t := s) (row := anyPayload) h rfl (runChannelGet_done n (s.leaveInbound rest))
    refine reply.trans ?_
    rw [State.leaveInbound, State.withLink_table, fields]
    rfl

/-! ## CHANNEL_SET -/

/-- A CHANNEL_SET of legal values writes the record, brings the TRIP line up to date and tells the scan (R15, R16). -/
theorem exec_channelSet_done {s : State} {token : Byte} {p : List Byte} {rest : List Frame}
    (h : s.Executes { kind := 0x10, token := token, payload := p } rest) (hl : p.length = 18) {n : Fin 24}
    (hc : channelOf (field8 p 0) = some n) {c : ChannelSettings} (hd : decodeChannelSettings p = some c) :
    exec .channelSet s = .next ((((s.setChannel n c.record).updateLine).channelChanged n).answered
      { kind := 0x10, token := token, payload := p } rest [0x00]) :=
  row_does h rfl ((runChannelSet_done hl hc hd _).trans
    (congrArg (replyDone []) (State.channelChanged_leaveInbound n (s.setChannel n c.record).updateLine rest)))

/-- Settles O20: a payload is refused for its field values exactly when no settings are decoded from it. -/
theorem channelSetRefusesWhatIsIllegal : Obligations.ChannelSetRefusesWhatIsIllegal := by
  refine ⟨fun before after b3 b2 b1 b0 n hn => ?_, fun s token p rest h =>
    ⟨fun hl => ?_, fun hl hge => ?_, fun hl hlt => ?_⟩⟩
  · have number : field32 (before ++ [b3, b2, b1, b0] ++ after) before.length = n :=
      (field32_append before b3 b2 b1 b0 after).trans hn.symm
    refine ⟨field8_append before b3 after, number, ?_⟩
    have high := b3.isLt
    have next := b2.isLt
    have third := b1.isLt
    have low := b0.isLt
    rw [signedField32_eq _ _ (by omega), number]
    split <;> split <;> omega
  · exact row_refuses h rfl (runChannelSet_badLength hl)
  · exact row_refuses h rfl (runChannelSet_noChannel hl hge)
  · rw [← decodeChannelSettings_eq_none]
    refine ⟨fun answer => ?_, fun hd => row_refuses h rfl (runChannelSet_badValue hl hlt hd)⟩
    cases hd : decodeChannelSettings p with
    | none => rfl
    | some c =>
      rw [exec_channelSet_done h hl (channelOf_of_lt hlt) hd, Host.Outcome.next.injEq] at answer
      exact absurd answer (State.answered_ne (by decide))

end Sys2Proof.Machine
end

section
namespace Sys2Proof.Machine

/-! PROOFS. CHANNEL_SET away from the current step, and CHANNEL_OFF with the step it makes a skipped one. -/

/-- Settles O19: the payload decodes to its settings, and the scan has no current step to start again. -/
theorem channelSetWritesTheWholeRecord : Obligations.ChannelSetWritesTheWholeRecord := by
  intro s token n c unused rest legal hun h away
  refine ⟨s.table.set n c.record, rfl, ?_⟩
  have named : channelOf (field8 (c.payload n unused) 0) = some n := channelOf_byteOf n _
  have unmoved : (s.setChannel n c.record).updateLine.channelChanged n = (s.setChannel n c.record).updateLine :=
    State.channelChanged_elsewhere away
  have line : lineLevel s.limit.mode s.limit.latch (s.table.set n c.record)
      = if s.limit.mode = .follow then (s.table.set n c.record).toList.any (fun d => d.trip = .tripped)
        else s.limit.latch := by
    cases s.limit.mode <;> rfl
  rw [exec_channelSet_done h (c.payload_length n hun) named (decodeChannelSettings_payload n legal unused), unmoved]
  rw [State.updateLine, State.setChannel_eq, State.withTable_limit, State.withTable_table, line]
  rfl

/-- A CHANNEL_OFF of a channel clears its enabled field and tells the scan (R18). -/
theorem exec_channelOff_done {s : State} {token : Byte} {rest : List Frame} {n : Fin 24}
    (h : s.Executes { kind := 0x12, token := token, payload := [byteOf n] } rest) :
    exec .channelOff s = .next (((s.disable n).channelChanged n).answered
      { kind := 0x12, token := token, payload := [byteOf n] } rest [0x00]) :=
  row_does h rfl ((runChannelOff_done n _).trans (congrArg (replyDone []) (State.channelChanged_leaveInbound n
    (s.disable n) rest)))

/-! ## A skipped step -/

/-- The record of a skipped step passes the Limit Monitor untouched (R145). -/
theorem State.evaluate_of_skipped {r : Record} (h : r.flags.skipped = true) (s : State) : s.evaluate r = (r, s) := by
  unfold State.evaluate
  rw [h]

/-- On a list with room the record of a skipped step takes the next number and joins the list, and the scan goes on
(R87, R89, R112). -/
theorem State.produce_of_skipped {r : Record} (h : r.flags.skipped = true) {s : State}
    (room : s.queue.list.length < 128) :
    s.produce r = (.goOn, { s with
      seq := { s.seq with redo := false }
      queue := { s.queue with
        nextSeq := s.queue.nextSeq + 1
        list := s.queue.list ++ [{ sent := false, record :=
          { r with seq := s.queue.nextSeq, flags := { r.flags with redone := s.seq.redo } } }] } }) := by
  have untouched : (s.assign r).2.evaluate (s.assign r).1 = s.assign r := 
    State.evaluate_of_skipped (r := (s.assign r).1) h (s.assign r).2
  rw [State.produce, untouched, State.admitRecord]
  exact if_pos room

/-- A step that completes with no lock and an empty accumulator raises its MARK, and that is all (R91). -/
theorem State.completeStep_of_clean (st : Step) {s : State} (hlock : s.ranging.lock = none)
    (hacc : s.seq.acc = .empty) :
    s.completeStep st
      = s.withEvents (if st.mark then s.events.raise .mark (BitVec.ofNat 16 s.seq.step) else s.events) := by
  have unlocked : { s.ranging with lock := none } = s.ranging := by rw [← hlock]
  have emptied : { s.seq with acc := .empty } = s.seq := by rw [← hacc]
  have clean : (s.withRanging { s.ranging with lock := none }).withSeq { s.seq with acc := .empty } = s := by
    rw [unlocked, emptied]; rfl
  rw [State.completeStep, clean]
  split <;> rfl

/-- The end of a pass sets the position back, wherever it stood (R92). -/
theorem State.endPass_withStep (s : State) (k : Nat) : (s.withSeq { s.seq with step := k }).endPass = s.endPass := by
  unfold State.endPass
  show (if s.settings.passes ≠ 0 ∧ s.settings.passes ≤ nextPassesDone s.seq.passesDone then _
    else if s.seq.scan = .pausing then _ else _) = if _ then _ else if _ then _ else _
  split
  · rfl
  · split <;> rfl

/-- After a step the sequencer starts the rest of the list, or ends the pass when there is none (R91, R92). -/
theorem startSteps_rest (s : State) :
    startSteps (s.list.drop (s.seq.step + 1)) (s.withSeq { s.seq with step := s.seq.step + 1 })
      = s.takeContinuation (if s.seq.step + 1 < s.list.length then .nextStep else .endPass) := by
  split
  next => rfl
  next h =>
    rw [List.drop_eq_nil_of_le (by omega)]
    exact s.endPass_withStep (s.seq.step + 1)

/-- The state after the SKIPPED record of the current step has joined a list with room and the step has completed (R87,
R91). -/
def State.afterSkip (st : Step) (u : State) : State :=
  { u with
    seq := { u.seq with sample := 0, redo := false }
    queue := { u.queue with
      nextSeq := u.queue.nextSeq + 1
      list := u.queue.list ++ [{ sent := false, record := {
        seq := u.queue.nextSeq, pass := u.seq.pass, step := u.seq.step, channel := st.channel, sample := 0,
        function := none, range := 0, count := 0, value := 0, time := u.seq.clockMs
        flags := { overrange := false, hunt := false, fast := false, mean := false, skipped := true,
                   redone := u.seq.redo, trip := false } } }] }
    events := if st.mark then u.events.raise .mark (BitVec.ofNat 16 u.seq.step) else u.events }

/-- Starting a disabled step on a list with room skips it, and the scan goes on behind it (R87, R91). -/
theorem State.takeContinuation_redoStep_skipped {u : State} {st : Step} (current : u.currentStep = some st)
    (disabled : u.table[st.channel].enabled = false) (room : u.queue.list.length < 128) (hlock : u.ranging.lock = none)
    (hacc : u.seq.acc = .empty) :
    u.takeContinuation .redoStep
      = (u.afterSkip st).takeContinuation (if u.seq.step + 1 < u.list.length then .nextStep else .endPass) := by
  obtain ⟨inList, isStep⟩ := List.getElem?_eq_some_iff.1 current
  have position : u.list.drop u.seq.step = st :: u.list.drop (u.seq.step + 1) := by
    rw [List.drop_eq_getElem_cons inList, isStep]
  have off : ¬ u.table[st.channel].enabled = true := ne_true_of_eq_false disabled
  have record := State.produce_of_skipped
    (r := (u.withSeq { u.seq with sample := 0 }).skippedRecord st) rfl (s := u.withSeq { u.seq with sample := 0 }) room
  show startSteps (u.list.drop u.seq.step) u = _
  rw [position, startSteps, if_neg off]
  dsimp only
  rw [record]
  dsimp only
  rw [State.completeStep_of_clean st]
  · exact startSteps_rest (u.afterSkip st)
  · exact hlock
  · exact hacc

/-- Settles O22: the refusals, and otherwise the cases of a rewritten channel on the scan. -/
theorem channelOffDisablesTheChannelOnly : Obligations.ChannelOffDisablesTheChannelOnly := by
  intro s token p rest h
  refine ⟨fun hl => row_refuses h rfl (runChannelOff_badLength hl), fun b hb hge => ?_, fun n table hp htable => ?_⟩
  · subst hb
    exact row_refuses h rfl (runChannelOff_noChannel hge)
  subst hp
  have answer : exec .channelOff s = .next (((s.withTable table).channelChanged n).answered
      { kind := 0x12, token := token, payload := [byteOf n] } rest [0x00]) := by
    rw [htable]; exact exec_channelOff_done h
  refine ⟨fun away => ?_, fun st u hst hn hrunning hu => ⟨?_, fun room => ?_⟩, fun st hst hn hpausing => ?_,
    fun st hst hn hheld => ⟨?_, ?_⟩, fun st hst hn hpaused => ⟨?_, ?_⟩⟩
  · rw [answer, State.channelChanged_elsewhere (s := s.withTable table) away]
  · rw [answer, State.channelChanged_running (s := s.withTable table) hst hn hrunning, hu]
    rfl
  · subst hu hn
    have disabled : table[st.channel].enabled = false := by simp [htable]
    exact State.takeContinuation_redoStep_skipped hst disabled room rfl rfl
  · rw [answer, State.channelChanged_pausing (s := s.withTable table) hst hn hpausing]
    rfl
  · rintro (hc | hc | hc) <;>
      rw [answer, State.channelChanged_held_unfinished (s := s.withTable table) hst hn hheld hc rfl] <;> rfl
  · rintro (hc | hc) <;>
      rw [answer, State.channelChanged_held_complete (s := s.withTable table) hst hn hheld hc rfl]
  · rintro (hc | hc | hc) <;>
      rw [answer, State.channelChanged_paused_unfinished (s := s.withTable table) hst hn hpaused hc rfl] <;> rfl
  · rintro (hc | hc) <;>
      rw [answer, State.channelChanged_paused_complete (s := s.withTable table) hst hn hpaused hc rfl]

end Sys2Proof.Machine
end

section
namespace Sys2Proof.Machine

/-! PROOFS. RESTART: STOP semantics, the clears, and the request. -/

/-- A raise leaves the subscription set (R160). -/
theorem EventTable.raise_subscription (t : EventTable) (k : EventKind) (d : Word16) :
    (t.raise k d).subscription = t.subscription := by
  rcases t.raise_cases k d with ⟨-, -, h⟩ | ⟨-, -, h⟩ | ⟨-, h⟩ <;> simp [h]

/-- RESTART rewrites every record of the table, each at its place (R13). -/
theorem mapTable_eq_map (f : Channel → Channel) (t : Vector Channel 24) : mapTable f t = t.map f := by
  ext i hi
  simp [mapTable]

/-- Discarding the staged record reaches the result queue and the entries of the event table alone (R99, R117). -/
theorem State.discardStaged_cases (s : State) :
    ∃ q e, s.discardStaged = (s.withQueue q).withEvents e ∧ e.subscription = s.events.subscription := by
  unfold State.discardStaged
  cases s.queue.staged with
  | none => exact ⟨s.queue, s.events, rfl, rfl⟩
  | some r => exact ⟨_, _, rfl, EventTable.raise_subscription _ _ _⟩

/-- The clears of RESTART on any state (R13, R188). -/
theorem State.clearWork_eq (s : State) : s.clearWork = { s with
    seq := { s.seq with pass := 0, step := 0, sample := 0, passesDone := 0, passStart := 0, clockMs := 0,
                        clockTicks := 0 }
    table := s.table.map fun c => { c with remembered := highestRange c.function, trip := .clear }
    limit := { s.limit with latch := false, line := false }
    queue := .reset
    stream := { s.stream with state := .off, inFlight := 0, timer := none, timeouts := 0 }
    link := { s.link with framingCount := 0, checkCount := 0, overflowCount := 0 }
    events := .cleared s.events.subscription } := by
  rw [State.clearWork, mapTable_eq_map]; rfl

/-- STOP semantics in a scan that is not IDLE, but for the queue and the events it leaves (R99). -/
theorem State.stopScan_of_active {s : State} (h : s.seq.scan ≠ .idle) :
    ∃ q e, e.subscription = s.events.subscription ∧ s.stopScan = { s with
      conv := .idle, matrix := .opened, ranging := .dropped, rail := s.rail.release, queue := q, events := e
      seq := { s.seq with scan := .idle, step := 0, sample := 0, cont := none, resume := none, acc := .empty,
                          redo := false, paceTimer := none, paceDue := false, latch := false } } := by
  obtain ⟨q, e, discarded, kept⟩ := s.abortConversion.openMatrix.discardStaged_cases
  refine ⟨q, e, kept, ?_⟩
  unfold State.stopScan
  rw [discarded]
  split
  · exact absurd ‹_› h
  all_goals rfl

/-- STOP semantics neither read nor write the link. -/
theorem State.stopScan_withLink (s : State) (l : Link) : (s.withLink l).stopScan = s.stopScan.withLink l := by
  have discard (u : State) : (u.withLink l).discardStaged = u.discardStaged.withLink l := by
    unfold State.discardStaged
    rw [State.withLink_queue]
    cases u.queue.staged <;> rfl
  have cut := discard s.abortConversion.openMatrix
  unfold State.stopScan
  rw [State.withLink_seq]
  cases s.seq.scan with
  | idle => rfl
  | _ =>
    exact congrArg (fun u : State => (u.dropSample.withSeq
      { u.dropSample.seq with acc := .empty, redo := false }).enterIdle.withRail s.rail.release) cut

theorem runRestart_badLength {p : List Byte} (h : p ≠ []) (s : State) : runRestart p s = refuse .badLength s :=
  if_pos (mt List.length_eq_zero_iff.1 h)

/-- RESTART with no payload answers DONE after STOP semantics and the clears (R188). -/
theorem exec_restart_done {s : State} {token : Byte} {rest : List Frame}
    (h : s.Executes { kind := 0x03, token := token, payload := [] } rest) :
    exec .restart s = .next (s.stopScan.clearWork.answered { kind := 0x03, token := token, payload := [] } rest
      [0x00]) :=
  have stopped : (s.leaveInbound rest).stopScan = s.stopScan.leaveInbound rest := by
    rw [State.leaveInbound, State.stopScan_withLink, State.leaveInbound, s.stopScan_around.link]
  row_does h rfl (congrArg (fun u : State => replyDone [] u.clearWork) stopped)

/-- Settles O18: in IDLE the stop does nothing, elsewhere what it leaves of the queue and the events is cleared. -/
theorem restartClearsTheWorkAndKeepsTheSettings : Obligations.RestartClearsTheWorkAndKeepsTheSettings := by
  intro s token p rest h
  refine ⟨fun hp => row_refuses h rfl (runRestart_badLength hp), ?_, ?_⟩
  · rintro rfl active
    obtain ⟨q, e, kept, stopped⟩ := State.stopScan_of_active active
    rw [exec_restart_done h, stopped, State.clearWork_eq]
    dsimp only
    rw [kept]
    rfl
  · rintro rfl idle
    have stopped : s.stopScan = s := by simp [State.stopScan, idle]
    rw [exec_restart_done h, stopped, State.clearWork_eq]

end Sys2Proof.Machine
end

section
namespace Sys2Proof.Machine

/-! PROOFS. The six settings of the channels, and that the sample loop leaves them.

The working fields of a channel record are its remembered range and its trip state (R1): only an evaluation, an accepted
sample and RESTART write them, and nothing of the sample loop writes the other six. -/

/-- A channel record with its working fields blanked: its six settings (R1). -/
def Channel.settings (c : Channel) : Channel := { c with remembered := 0, trip := .clear }

/-- The six settings of every channel (R1). -/
def settingsOf (t : Vector Channel 24) : Vector Channel 24 := t.map Channel.settings

@[simp] theorem settingsOf_get (t : Vector Channel 24) (n : Fin 24) : (settingsOf t)[n] = t[n].settings := by
  simp [settingsOf]

/-- Tables of the same settings agree on the settings of each channel. -/
theorem settings_eq_of_settingsOf_eq {t u : Vector Channel 24} (h : settingsOf t = settingsOf u) (n : Fin 24) :
    t[n].settings = u[n].settings := by
  rw [← settingsOf_get, h, settingsOf_get]

/-- A record that has the settings of another, up to the enabled field of a third, is the third but for that field and
the working ones. -/
theorem Channel.eq_of_settings_eq {c d e : Channel} (settings : c.settings = e.settings)
    (same : { e with enabled := d.enabled } = d) :
    { c with enabled := d.enabled, remembered := d.remembered, trip := d.trip } = d := by
  rw [← same]
  cases c
  cases e
  simp only [Channel.settings, Channel.mk.injEq] at settings ⊢
  obtain ⟨-, function, range, mode, settle, window, -, -⟩ := settings
  exact ⟨trivial, function, range, mode, settle, window, trivial, trivial⟩

/-- A record rewritten to one of the same settings leaves the settings of the table. -/
theorem settingsOf_set (t : Vector Channel 24) (n : Fin 24) {c : Channel} (h : c.settings = t[n].settings) :
    settingsOf (t.set n c) = settingsOf t := by
  ext i hi : 1
  by_cases same : n.val = i
  · subst same
    simpa [settingsOf] using h
  · simp [settingsOf, Vector.getElem_set_ne _ _ same]

/-! ## The sample loop leaves the six settings -/

@[simp] theorem State.startConversion_table (s : State) : s.startConversion.table = s.table := by
  rcases s.startConversion_cases with h | ⟨st, -, -, -, -, h⟩ <;> rw [h]; rfl

@[simp] theorem State.connect_table (t : Target) (s : State) : (s.connect t).table = s.table := by
  rcases s.connect_cases t with h | ⟨-, h⟩ | ⟨-, -, -, -, h⟩ <;> rw [h]
  · rfl
  · exact s.startConversion_table

@[simp] theorem State.admitRecord_table (r : Record) (s : State) : (s.admitRecord r).2.table = s.table := by
  rcases s.admitRecord_cases r with ⟨-, h⟩ | ⟨-, -, h⟩ | ⟨-, h⟩ | ⟨_, -, -, -, h⟩ <;> rw [h] <;> rfl

/-- An evaluation writes a trip state at most (R147). -/
@[simp] theorem State.evaluate_settingsOf (r : Record) (s : State) :
    settingsOf (s.evaluate r).2.table = settingsOf s.table := by
  rcases (s.evaluate_cases r).2 with h | ⟨-, h⟩ | ⟨-, h⟩ <;> rw [h]
  · exact settingsOf_set _ _ rfl
  · exact settingsOf_set _ _ rfl

@[simp] theorem State.produce_settingsOf (draft : Record) (s : State) :
    settingsOf (s.produce draft).2.table = settingsOf s.table := by
  rw [State.produce, State.admitRecord_table, State.evaluate_settingsOf]; rfl

@[simp] theorem State.completeStep_table (st : Step) (s : State) : (s.completeStep st).table = s.table := by
  unfold State.completeStep; dsimp only; split <;> rfl

@[simp] theorem State.endPass_table (s : State) : s.endPass.table = s.table := by
  unfold State.endPass; dsimp only; split
  · rfl
  · split <;> rfl

@[simp] theorem State.beginSample_table (st : Step) (s : State) : (s.beginSample st).table = s.table :=
  State.connect_table _ _

theorem startSteps_settingsOf (steps : List Step) :
    ∀ s : State, settingsOf (startSteps steps s).table = settingsOf s.table := by
  induction steps with
  | nil => intro s; exact congrArg settingsOf s.endPass_table
  | cons st rest ih =>
    intro s
    have made (r : Record) : settingsOf (((s.withSeq { s.seq with sample := 0 }).produce r).2.completeStep st).table
        = settingsOf s.table := by
      rw [State.completeStep_table, State.produce_settingsOf]; rfl
    rw [startSteps]
    split
    · rw [State.beginSample_table]; rfl
    · dsimp only
      split
      · exact made _
      · rw [ih]; exact made _

@[simp] theorem State.takeContinuation_settingsOf (c : Continuation) (s : State) :
    settingsOf (s.takeContinuation c).table = settingsOf s.table := by
  cases c with
  | measure => unfold State.takeContinuation; dsimp only; split <;> simp
  | nextSample => unfold State.takeContinuation; dsimp only; split <;> simp
  | redoStep => exact startSteps_settingsOf _ s
  | nextStep => exact startSteps_settingsOf _ (s.withSeq { s.seq with step := s.seq.step + 1 })
  | endPass => exact congrArg settingsOf s.endPass_table

@[simp] theorem State.goOnWith_settingsOf (c : Continuation) (s : State) :
    settingsOf (s.goOnWith c).table = settingsOf s.table := by
  unfold State.goOnWith
  split
  · cases c with
    | endPass => exact congrArg settingsOf s.endPass_table
    | _ => rfl
  · exact s.takeContinuation_settingsOf c

@[simp] theorem State.holdWith_table (c : Continuation) (s : State) : (s.holdWith c).table = s.table := by
  unfold State.holdWith; split <;> rfl

@[simp] theorem State.deliver_settingsOf (st : Step) (last : Bool) (draft : Record) (s : State) :
    settingsOf (s.deliver st last draft).table = settingsOf s.table := by
  have done : settingsOf (if last then (s.produce draft).2.completeStep st else (s.produce draft).2).table
      = settingsOf s.table := by split <;> simp
  unfold State.deliver
  dsimp only
  split
  · rw [State.goOnWith_settingsOf, done]
  · rw [State.holdWith_table, done]

@[simp] theorem State.takeSample_settingsOf (st : Step) (a : Sample) (s : State) :
    settingsOf (s.takeSample st a).table = settingsOf s.table := by
  unfold State.takeSample
  dsimp only
  split
  · split <;> simp
  · simp

/-- An accepted sample writes a remembered range at most (R67). -/
@[simp] theorem State.acceptOutcome_settingsOf (st : Step) (hunt : Bool) (o : ConvOutcome) (s : State) :
    settingsOf (s.acceptOutcome st hunt o).table = settingsOf s.table := by
  unfold State.acceptOutcome
  dsimp only
  rw [State.takeSample_settingsOf, State.withRanging_table]
  split
  · exact settingsOf_set _ _ rfl
  · rfl

@[simp] theorem State.judge_settingsOf (st : Step) (o : ConvOutcome) (s : State) :
    settingsOf (s.judge st o).table = settingsOf s.table := by
  unfold State.judge
  split
  · split
    · simp
    · split <;> simp [State.changeRange]
  · simp

@[simp] theorem State.takeOutcome_settingsOf (o : ConvOutcome) (s : State) :
    settingsOf (s.takeOutcome o).table = settingsOf s.table := by
  unfold State.takeOutcome
  split
  case h_1 | h_2 => split <;> simp
  all_goals rfl

@[simp] theorem State.holdOver_settingsOf (s : State) : settingsOf s.holdOver.table = settingsOf s.table := by
  unfold State.holdOver; split <;> simp

@[simp] theorem State.drain_settingsOf (removed : Nat) (s : State) :
    settingsOf (s.drain removed).table = settingsOf s.table := by
  unfold State.drain
  split
  · split <;> simp
  · rfl

@[simp] theorem State.channelChanged_settingsOf (n : Fin 24) (s : State) :
    settingsOf (s.channelChanged n).table = settingsOf s.table := by
  unfold State.channelChanged
  split
  · rfl
  · split
    · split
      · exact State.takeContinuation_settingsOf _ _
      · rfl
      · split
        · split <;> rfl
        · rfl
      · split
        · split <;> rfl
        · rfl
        · rfl
      all_goals rfl
    · rfl

end Sys2Proof.Machine
end

section
namespace Sys2Proof.Machine

/-! PROOFS. Which commands keep the scan list, the scan settings and the channel settings, and what the others write. -/

/-! ## States of the same setup -/

/-- The second state has the scan list, the scan settings and the channel settings of the first. -/
structure KeepsSetup (s t : State) : Prop where
  list : t.list = s.list
  settings : t.settings = s.settings
  channels : settingsOf t.table = settingsOf s.table

theorem KeepsSetup.refl (s : State) : KeepsSetup s s := ⟨rfl, rfl, rfl⟩

theorem KeepsSetup.trans {s t u : State} (h : KeepsSetup s t) (k : KeepsSetup t u) : KeepsSetup s u :=
  ⟨k.list.trans h.list, k.settings.trans h.settings, k.channels.trans h.channels⟩

/-- The same, with the later part first. -/
theorem KeepsSetup.after {s t u : State} (k : KeepsSetup t u) (h : KeepsSetup s t) : KeepsSetup s u := h.trans k

/-- Where the sample loop's surroundings stand, only the channel settings remain to be looked at. -/
theorem SameAround.keepsSetup {s t : State} (h : SameAround s t) (k : settingsOf t.table = settingsOf s.table) :
    KeepsSetup s t := ⟨h.list, h.settings, k⟩

theorem State.advance_keepsSetup (n : Nat) (s : State) : KeepsSetup s (s.advance n) := ⟨rfl, rfl, rfl⟩

theorem State.startConversion_keepsSetup (s : State) : KeepsSetup s s.startConversion :=
  s.startConversion_around.keepsSetup (congrArg settingsOf s.startConversion_table)

theorem State.takeContinuation_keepsSetup (c : Continuation) (s : State) : KeepsSetup s (s.takeContinuation c) :=
  (s.takeContinuation_around c).keepsSetup (s.takeContinuation_settingsOf c)

theorem State.drain_keepsSetup (removed : Nat) (s : State) : KeepsSetup s (s.drain removed) :=
  (s.drain_around removed).keepsSetup (s.drain_settingsOf removed)

theorem State.railFault_keepsSetup (cause : RailCause) (s : State) : KeepsSetup s (s.railFault cause) := by
  unfold State.railFault; dsimp only; split <;> exact ⟨rfl, rfl, rfl⟩

theorem State.triggerLatch_keepsSetup (s : State) : KeepsSetup s s.triggerLatch := by
  refine s.triggerLatch_around.keepsSetup (congrArg settingsOf ?_)
  unfold State.triggerLatch
  split
  · rfl
  all_goals split <;> rfl

theorem State.stopScan_keepsSetup (s : State) : KeepsSetup s s.stopScan := by
  by_cases idle : s.seq.scan = .idle
  · rw [show s.stopScan = s by simp [State.stopScan, idle]]
    exact .refl s
  · obtain ⟨q, e, -, stopped⟩ := State.stopScan_of_active idle
    rw [stopped]
    exact ⟨rfl, rfl, rfl⟩

/-- RESTART writes the working fields of the channels alone (R13, R188). -/
theorem State.clearWork_keepsSetup (s : State) : KeepsSetup s s.clearWork := by
  rw [State.clearWork_eq]
  refine ⟨rfl, rfl, ?_⟩
  simp [settingsOf, Channel.settings, Function.comp_def]

theorem State.takeOutcome_keepsSetup (o : ConvOutcome) (s : State) : KeepsSetup s (s.takeOutcome o) :=
  (s.takeOutcome_around o).keepsSetup (s.takeOutcome_settingsOf o)

/-! ## The requests -/

/-- After a row the state is as it was, or the one that the row's request leaves, answered. -/
theorem row_cases {s t : State} {kind : Byte} {row : List Byte → Bool} {run : List Byte → State → Execution}
    (h : whileLive s (State.serve kind row run) = .next t) :
    t = s ∨ ∃ f rest, t = State.finishRequest f (run f.payload (s.leaveInbound rest)) := by
  rcases whileLive_cases s (State.serve kind row run) with ⟨-, held⟩ | ⟨-, live⟩
  · exact .inl (Host.Outcome.next.inj (h.symm.trans held))
  · have effect : t = s.serve kind row run := Host.Outcome.next.inj (h.symm.trans live)
    rcases serve_cases kind row run s with same | ⟨f, rest, -, -, -, -, -, -, executed⟩
    · exact .inl (effect.trans same)
    · exact .inr ⟨f, rest, effect.trans executed⟩

/-- Answering a request keeps the setup that its execution has left. -/
theorem keepsSetup_finishRequest (f : Frame) (e : Execution) : KeepsSetup e.2 (State.finishRequest f e) :=
  ⟨rfl, rfl, rfl⟩

/-- A row of a request that keeps the setup keeps the setup. -/
theorem keepsSetup_of_row {s t : State} {kind : Byte} {row : List Byte → Bool}
    {run : List Byte → State → Execution} (h : whileLive s (State.serve kind row run) = .next t)
    (hrun : ∀ p u, KeepsSetup u (run p u).2) : KeepsSetup s t := by
  rcases row_cases h with rfl | ⟨f, rest, rfl⟩
  · exact .refl t
  · have executed : KeepsSetup s (run f.payload (s.leaveInbound rest)).2 := (hrun _ _).after ⟨rfl, rfl, rfl⟩
    exact executed.trans (keepsSetup_finishRequest f _)

/-- A check that refuses leaves it to the rest of the request whether the setup is kept. -/
theorem keepsSetup_checked {s : State} {p : Prop} [Decidable p] {o : ReplyOutcome} {e : Execution}
    (h : KeepsSetup s e.2) : KeepsSetup s (if p then refuse o s else e).2 := by
  split
  · exact .refl s
  · exact h

theorem runIdentify_keepsSetup (p : List Byte) (s : State) : KeepsSetup s (runIdentify p s).2 :=
  keepsSetup_checked (.refl s)

theorem runStatus_keepsSetup (p : List Byte) (s : State) : KeepsSetup s (runStatus p s).2 :=
  keepsSetup_checked (.refl s)

theorem runRestart_keepsSetup (p : List Byte) (s : State) : KeepsSetup s (runRestart p s).2 :=
  keepsSetup_checked (s.stopScan_keepsSetup.trans s.stopScan.clearWork_keepsSetup)

theorem runChannelGet_keepsSetup (p : List Byte) (s : State) : KeepsSetup s (runChannelGet p s).2 := by
  refine keepsSetup_checked ?_
  split <;> exact .refl s

theorem runListRead_keepsSetup (p : List Byte) (s : State) : KeepsSetup s (runListRead p s).2 :=
  keepsSetup_checked (keepsSetup_checked (.refl s))

theorem runStart_keepsSetup (p : List Byte) (s : State) : KeepsSetup s (runStart p s).2 :=
  keepsSetup_checked (keepsSetup_checked (keepsSetup_checked ⟨rfl, rfl, rfl⟩))

theorem runStop_keepsSetup (p : List Byte) (s : State) : KeepsSetup s (runStop p s).2 :=
  keepsSetup_checked s.stopScan_keepsSetup

theorem State.pauseScan_keepsSetup {s t : State} (h : s.pauseScan = some t) : KeepsSetup s t := by
  unfold State.pauseScan at h
  split at h
  case h_1 => split at h <;> cases h <;> exact ⟨rfl, rfl, rfl⟩
  all_goals cases h
  all_goals exact ⟨rfl, rfl, rfl⟩

theorem runPause_keepsSetup (p : List Byte) (s : State) : KeepsSetup s (runPause p s).2 := by
  refine keepsSetup_checked ?_
  split
  next t h => exact State.pauseScan_keepsSetup h
  next => exact .refl s

theorem State.resumePaused_keepsSetup (s : State) : KeepsSetup s s.resumePaused := by
  unfold State.resumePaused
  split
  case h_4 => exact KeepsSetup.after (State.takeContinuation_keepsSetup _ _) ⟨rfl, rfl, rfl⟩
  all_goals exact ⟨rfl, rfl, rfl⟩

theorem State.resumeScan_keepsSetup {s t : State} (h : s.resumeScan = some t) : KeepsSetup s t := by
  unfold State.resumeScan at h
  split at h <;> cases h
  · exact ⟨rfl, rfl, rfl⟩
  · exact s.resumePaused_keepsSetup
  · exact .refl s

theorem runResume_keepsSetup (p : List Byte) (s : State) : KeepsSetup s (runResume p s).2 := by
  refine keepsSetup_checked ?_
  split
  next t h => exact State.resumeScan_keepsSetup h
  next => exact .refl s

theorem runTrigger_keepsSetup (p : List Byte) (s : State) : KeepsSetup s (runTrigger p s).2 :=
  keepsSetup_checked s.triggerLatch_keepsSetup

theorem runFetch_keepsSetup (p : List Byte) (s : State) : KeepsSetup s (runFetch p s).2 :=
  keepsSetup_checked (keepsSetup_checked (keepsSetup_checked
    (KeepsSetup.after (State.drain_keepsSetup _ _) ⟨rfl, rfl, rfl⟩)))

theorem runStream_keepsSetup (p : List Byte) (s : State) : KeepsSetup s (runStream p s).2 := by
  refine keepsSetup_checked (keepsSetup_checked ?_)
  split <;> exact ⟨rfl, rfl, rfl⟩

theorem State.acknowledge_keepsSetup (a : Word16) (s : State) : KeepsSetup s (s.acknowledge a) :=
  KeepsSetup.after (State.drain_keepsSetup _ _) ⟨rfl, rfl, rfl⟩

theorem runAck_keepsSetup (p : List Byte) (s : State) : KeepsSetup s (runAck p s).2 := by
  refine keepsSetup_checked (keepsSetup_checked ?_)
  split
  · exact s.acknowledge_keepsSetup _
  · split <;> exact .refl s

theorem runEvents_keepsSetup (p : List Byte) (s : State) : KeepsSetup s (runEvents p s).2 :=
  keepsSetup_checked (keepsSetup_checked ⟨rfl, rfl, rfl⟩)

theorem runSubscribe_keepsSetup (p : List Byte) (s : State) : KeepsSetup s (runSubscribe p s).2 :=
  keepsSetup_checked (keepsSetup_checked ⟨rfl, rfl, rfl⟩)

theorem runTripControl_keepsSetup (p : List Byte) (s : State) : KeepsSetup s (runTripControl p s).2 := by
  refine keepsSetup_checked ?_
  split <;> exact ⟨rfl, rfl, rfl⟩

/-! ## The events -/

/-- An effect that keeps the setup keeps it, on a live part and on one held in reset. -/
theorem keepsSetup_of_effect {s t : State} {f : State → State} (h : whileLive s f = .next t)
    (hf : KeepsSetup s (f s)) : KeepsSetup s t := by
  rcases whileLive_cases s f with ⟨-, held⟩ | ⟨-, live⟩
  · rw [Host.Outcome.next.inj (h.symm.trans held)]; exact .refl s
  · rw [Host.Outcome.next.inj (h.symm.trans live)]; exact hf

theorem State.answerUnknownKind_keepsSetup (s : State) : KeepsSetup s s.answerUnknownKind := by
  unfold State.answerUnknownKind
  split
  · split <;> exact ⟨rfl, rfl, rfl⟩
  · exact .refl s

theorem State.answerBadToken_keepsSetup (s : State) : KeepsSetup s s.answerBadToken := by
  unfold State.answerBadToken
  split
  · split <;> exact ⟨rfl, rfl, rfl⟩
  · exact .refl s

theorem State.answerRepeat_keepsSetup (s : State) : KeepsSetup s s.answerRepeat := by
  unfold State.answerRepeat
  split
  · split
    · split <;> exact ⟨rfl, rfl, rfl⟩
    · exact .refl s
  · exact .refl s

theorem State.gapExpiry_keepsSetup (s : State) : KeepsSetup s s.gapExpiry := by
  unfold State.gapExpiry; split <;> exact ⟨rfl, rfl, rfl⟩

theorem State.sendOldestReply_keepsSetup (s : State) : KeepsSetup s s.sendOldestReply := by
  unfold State.sendOldestReply; split <;> exact ⟨rfl, rfl, rfl⟩

theorem State.sendEventReport_keepsSetup (s : State) : KeepsSetup s s.sendEventReport := by
  unfold State.sendEventReport; split <;> exact ⟨rfl, rfl, rfl⟩

theorem State.sendResultReport_keepsSetup (s : State) : KeepsSetup s s.sendResultReport := by
  unfold State.sendResultReport
  split
  case h_1 => split <;> exact ⟨rfl, rfl, rfl⟩
  all_goals exact .refl s

theorem State.endZero_keepsSetup (s : State) : KeepsSetup s s.endZero := by
  unfold State.endZero; split <;> exact ⟨rfl, rfl, rfl⟩

theorem State.endIntegrate_keepsSetup (input : MeanInput) (s : State) : KeepsSetup s (s.endIntegrate input) := by
  unfold State.endIntegrate; split <;> exact ⟨rfl, rfl, rfl⟩

theorem State.completeConversion_keepsSetup (o : ConvOutcome) (n : Nat) (s : State) :
    KeepsSetup s ((s.advance n).completeConversion o) :=
  KeepsSetup.after (State.takeOutcome_keepsSetup _ _) ⟨rfl, rfl, rfl⟩

theorem State.crossThreshold_keepsSetup (s : State) : KeepsSetup s s.crossThreshold := by
  unfold State.crossThreshold
  split
  case h_1 => exact s.completeConversion_keepsSetup _ _
  all_goals exact .refl s

theorem State.reachLimit_keepsSetup (s : State) : KeepsSetup s s.reachLimit := by
  unfold State.reachLimit
  split
  case h_1 => exact s.completeConversion_keepsSetup _ _
  all_goals exact .refl s

theorem State.settled_keepsSetup (s : State) : KeepsSetup s s.settled :=
  KeepsSetup.after (State.startConversion_keepsSetup _) ⟨rfl, rfl, rfl⟩

theorem State.endBreak_keepsSetup (s : State) : KeepsSetup s s.endBreak := by
  unfold State.endBreak
  split
  case h_1 =>
    dsimp only
    split
    · exact KeepsSetup.after (State.settled_keepsSetup _) ⟨rfl, rfl, rfl⟩
    · exact ⟨rfl, rfl, rfl⟩
  all_goals exact .refl s

theorem State.endSettle_keepsSetup (s : State) : KeepsSetup s s.endSettle := by
  unfold State.endSettle
  split
  case h_1 => exact KeepsSetup.after (State.settled_keepsSetup _) (s.advance_keepsSetup _)
  all_goals exact .refl s

theorem State.railInside_keepsSetup (s : State) : KeepsSetup s s.railInside := by
  unfold State.railInside; split <;> exact ⟨rfl, rfl, rfl⟩

theorem State.railTimeout_keepsSetup (s : State) : KeepsSetup s s.railTimeout := by
  unfold State.railTimeout
  split
  case h_1 => exact KeepsSetup.after (State.railFault_keepsSetup _ _) (s.advance_keepsSetup _)
  all_goals exact .refl s

theorem State.railDrop_keepsSetup (s : State) : KeepsSetup s s.railDrop := by
  unfold State.railDrop
  split
  case h_1 => exact s.railFault_keepsSetup _
  all_goals exact .refl s

theorem State.holdEnds_keepsSetup (s : State) : KeepsSetup s s.holdEnds := by
  unfold State.holdEnds; split <;> exact ⟨rfl, rfl, rfl⟩

theorem State.startPass_keepsSetup (s : State) : KeepsSetup s s.startPass := by
  unfold State.startPass
  split
  · exact KeepsSetup.after (State.takeContinuation_keepsSetup _ _) ⟨rfl, rfl, rfl⟩
  · exact .refl s

theorem State.latePass_keepsSetup (s : State) : KeepsSetup s s.latePass := by
  unfold State.latePass; split <;> exact ⟨rfl, rfl, rfl⟩

theorem State.paceExpiry_keepsSetup (s : State) : KeepsSetup s s.paceExpiry := by
  unfold State.paceExpiry
  split
  · exact .refl s
  · dsimp only
    split
    case h_4 =>
      split
      · exact KeepsSetup.after (State.latePass_keepsSetup _) ⟨rfl, rfl, rfl⟩
      all_goals exact ⟨rfl, rfl, rfl⟩
    case h_1 | h_2 | h_3 => exact KeepsSetup.after (State.latePass_keepsSetup _) ⟨rfl, rfl, rfl⟩
    all_goals exact ⟨rfl, rfl, rfl⟩

theorem State.clockWrap_keepsSetup (s : State) : KeepsSetup s s.clockWrap := by
  unfold State.clockWrap; split <;> exact ⟨rfl, rfl, rfl⟩

theorem State.retransmit_keepsSetup (s : State) : KeepsSetup s s.retransmit := by
  unfold State.retransmit
  split
  · exact .refl s
  · dsimp only
    split <;> exact ⟨rfl, rfl, rfl⟩

/-- The commands that may write the list, the scan settings or a channel's settings, reset apart (R13, R15, R18, R73,
R77). -/
def writesSetup : Instr → Bool
  | .channelSet | .channelOff | .listClear | .listAppend | .scanSet => true
  | _ => false

/-- Every command but those five and the reset rows keeps the list, the scan settings and the channel settings. -/
theorem exec_keepsSetup {c : Instr} {s t : State} (h : exec c s = .next t) (hreset : isResetRow c = false)
    (hwrites : writesSetup c = false) : KeepsSetup s t := by
  cases c with
  | channelSet | channelOff | listClear | listAppend | scanSet => cases hwrites
  | resetNLow | resetNHigh | powerUp => cases hreset
  | identify => exact keepsSetup_of_row h runIdentify_keepsSetup
  | status => exact keepsSetup_of_row h runStatus_keepsSetup
  | restart => exact keepsSetup_of_row h runRestart_keepsSetup
  | channelGet => exact keepsSetup_of_row h runChannelGet_keepsSetup
  | listRead => exact keepsSetup_of_row h runListRead_keepsSetup
  | start => exact keepsSetup_of_row h runStart_keepsSetup
  | stop => exact keepsSetup_of_row h runStop_keepsSetup
  | pause => exact keepsSetup_of_row h runPause_keepsSetup
  | resume => exact keepsSetup_of_row h runResume_keepsSetup
  | trigger => exact keepsSetup_of_row h runTrigger_keepsSetup
  | fetch => exact keepsSetup_of_row h runFetch_keepsSetup
  | streamOn | streamOff => exact keepsSetup_of_row h runStream_keepsSetup
  | ack => exact keepsSetup_of_row h runAck_keepsSetup
  | events => exact keepsSetup_of_row h runEvents_keepsSetup
  | subscribe => exact keepsSetup_of_row h runSubscribe_keepsSetup
  | modeFollow | modeLatched | clearLatch => exact keepsSetup_of_row h runTripControl_keepsSetup
  | unknownKind => exact keepsSetup_of_effect h s.answerUnknownKind_keepsSetup
  | badToken => exact keepsSetup_of_effect h s.answerBadToken_keepsSetup
  | repeatCacheMatch => exact keepsSetup_of_effect h s.answerRepeat_keepsSetup
  | goodCharacter b => exact keepsSetup_of_effect (f := fun u => u.withLink (u.link.character b)) h ⟨rfl, rfl, rfl⟩
  | damagedCharacter => exact keepsSetup_of_effect (f := fun u => u.withLink u.link.damaged) h ⟨rfl, rfl, rfl⟩
  | frameSent =>
    exact keepsSetup_of_effect (f := fun u => u.withLink { u.link with sending := none }) h ⟨rfl, rfl, rfl⟩
  | gapTimerExpiry => exact keepsSetup_of_effect h s.gapExpiry_keepsSetup
  | sendReply => exact keepsSetup_of_effect h s.sendOldestReply_keepsSetup
  | eventReport => exact keepsSetup_of_effect h s.sendEventReport_keepsSetup
  | resultReport => exact keepsSetup_of_effect h s.sendResultReport_keepsSetup
  | trigEdge => exact keepsSetup_of_effect h s.triggerLatch_keepsSetup
  | zeroEnd => exact keepsSetup_of_effect h s.endZero_keepsSetup
  | integrateEnd input => exact keepsSetup_of_effect h (s.endIntegrate_keepsSetup input)
  | deintegrateCrossing => exact keepsSetup_of_effect h s.crossThreshold_keepsSetup
  | deintegrateLimit => exact keepsSetup_of_effect h s.reachLimit_keepsSetup
  | breakEnd => exact keepsSetup_of_effect h s.endBreak_keepsSetup
  | settleEnd => exact keepsSetup_of_effect h s.endSettle_keepsSetup
  | railInsideWindow => exact keepsSetup_of_effect h s.railInside_keepsSetup
  | startTimeout => exact keepsSetup_of_effect h s.railTimeout_keepsSetup
  | drop => exact keepsSetup_of_effect h s.railDrop_keepsSetup
  | holdExpiry => exact keepsSetup_of_effect h s.holdEnds_keepsSetup
  | passStart => exact keepsSetup_of_effect h s.startPass_keepsSetup
  | paceTimerExpiry => exact keepsSetup_of_effect h s.paceExpiry_keepsSetup
  | scanClockWrap => exact keepsSetup_of_effect h s.clockWrap_keepsSetup
  | retransmitExpiry => exact keepsSetup_of_effect h s.retransmit_keepsSetup

/-! ## The five requests that may write -/

/-- LIST_CLEAR leaves the state, or in IDLE another list (R74). -/
theorem runListClear_cases (p : List Byte) (s : State) :
    (runListClear p s).2 = s ∨ (s.seq.scan = .idle ∧ ∃ l, (runListClear p s).2 = s.withList l) := by
  unfold runListClear
  split
  · exact .inl rfl
  · split
    next => exact .inl rfl
    next idle => exact .inr ⟨not_not.1 idle, [], rfl⟩

/-- LIST_APPEND leaves the state, or in IDLE another list (R75). -/
theorem runListAppend_cases (p : List Byte) (s : State) :
    (runListAppend p s).2 = s ∨ (s.seq.scan = .idle ∧ ∃ l, (runListAppend p s).2 = s.withList l) := by
  unfold runListAppend
  split
  · exact .inl rfl
  split
  · exact .inl rfl
  split
  · exact .inl rfl
  split
  · exact .inl rfl
  next idle =>
    split
    · exact .inl rfl
    · exact .inr ⟨not_not.1 idle, _, rfl⟩

/-- SCAN_SET leaves the state, or in IDLE other settings (R77). -/
theorem runScanSet_cases (p : List Byte) (s : State) :
    (runScanSet p s).2 = s ∨ (s.seq.scan = .idle ∧ ∃ c, (runScanSet p s).2 = s.withSettings c) := by
  unfold runScanSet
  split
  · exact .inl rfl
  split
  · exact .inl rfl
  split
  · exact .inl rfl
  next idle => exact .inr ⟨not_not.1 idle, _, rfl⟩

/-- CHANNEL_SET writes neither the list nor the scan settings (R15). -/
theorem runChannelSet_around (p : List Byte) (s : State) : SameAround s (runChannelSet p s).2 := by
  unfold runChannelSet
  split
  · exact .refl s
  split
  · exact .refl s
  split
  · exact .refl s
  · exact SameAround.after (State.channelChanged_around _ _) ⟨rfl, rfl, rfl, rfl, rfl, rfl⟩

/-- CHANNEL_OFF keeps the setup, or that of a state with one channel disabled (R18). -/
theorem runChannelOff_cases (p : List Byte) (s : State) :
    KeepsSetup s (runChannelOff p s).2
      ∨ ∃ n : Fin 24, KeepsSetup (s.disable n) (runChannelOff p s).2 := by
  unfold runChannelOff
  split
  · exact .inl (.refl s)
  split
  · exact .inl (.refl s)
  next n _ =>
    exact .inr ⟨n, (State.channelChanged_around n _).keepsSetup (State.channelChanged_settingsOf n _)⟩

/-- A row that writes the list in IDLE alone keeps the setup, or the scan is IDLE and the rest of it is kept. -/
theorem listRow_cases {s t : State} {kind : Byte} {row : List Byte → Bool} {run : List Byte → State → Execution}
    (h : whileLive s (State.serve kind row run) = .next t)
    (hrun : ∀ p u, (run p u).2 = u ∨ (u.seq.scan = .idle ∧ ∃ l, (run p u).2 = u.withList l)) :
    KeepsSetup s t ∨ (s.seq.scan = .idle ∧ t.settings = s.settings ∧ t.table = s.table) := by
  rcases row_cases h with rfl | ⟨f, rest, rfl⟩
  · exact .inl (.refl t)
  have answered := keepsSetup_finishRequest f (run f.payload (s.leaveInbound rest))
  rcases hrun f.payload (s.leaveInbound rest) with same | ⟨idle, l, written⟩
  · rw [same] at answered
    exact .inl (answered.after ⟨rfl, rfl, rfl⟩)
  · exact .inr ⟨idle, (congrArg State.settings written :), (congrArg State.table written :)⟩

theorem scanSetRow_cases {s t : State} (h : exec .scanSet s = .next t) :
    KeepsSetup s t ∨ (s.seq.scan = .idle ∧ t.list = s.list ∧ t.table = s.table) := by
  rcases row_cases h with rfl | ⟨f, rest, rfl⟩
  · exact .inl (.refl t)
  have answered := keepsSetup_finishRequest f (runScanSet f.payload (s.leaveInbound rest))
  rcases runScanSet_cases f.payload (s.leaveInbound rest) with same | ⟨idle, c, written⟩
  · rw [same] at answered
    exact .inl (answered.after ⟨rfl, rfl, rfl⟩)
  · exact .inr ⟨idle, (congrArg State.list written :), (congrArg State.table written :)⟩

theorem channelSetRow_cases {s t : State} (h : exec .channelSet s = .next t) :
    t.list = s.list ∧ t.settings = s.settings := by
  rcases row_cases h with rfl | ⟨f, rest, rfl⟩
  · exact ⟨rfl, rfl⟩
  · have around := runChannelSet_around f.payload (s.leaveInbound rest)
    exact ⟨around.list, around.settings⟩

theorem channelOffRow_cases {s t : State} (h : exec .channelOff s = .next t) :
    KeepsSetup s t ∨ ∃ n : Fin 24, KeepsSetup (s.disable n) t := by
  rcases row_cases h with rfl | ⟨f, rest, rfl⟩
  · exact .inl (.refl t)
  have answered := keepsSetup_finishRequest f (runChannelOff f.payload (s.leaveInbound rest))
  rcases runChannelOff_cases f.payload (s.leaveInbound rest) with kept | ⟨n, kept⟩
  · exact .inl ((kept.trans answered).after ⟨rfl, rfl, rfl⟩)
  · exact .inr ⟨n, (kept.trans answered).after ⟨rfl, rfl, rfl⟩⟩

/-- Everything a command can do to the setup, reset apart (R13, R15, R18, R73, R77). -/
theorem exec_setup_cases {c : Instr} {s t : State} (h : exec c s = .next t) (hreset : isResetRow c = false) :
    KeepsSetup s t
      ∨ ((c = .listClear ∨ c = .listAppend)
          ∧ s.seq.scan = .idle ∧ t.settings = s.settings ∧ t.table = s.table)
      ∨ (c = .scanSet ∧ s.seq.scan = .idle ∧ t.list = s.list ∧ t.table = s.table)
      ∨ (c = .channelSet ∧ t.list = s.list ∧ t.settings = s.settings)
      ∨ (c = .channelOff ∧ ∃ n : Fin 24, KeepsSetup (s.disable n) t) := by
  cases hwrites : writesSetup c with
  | false => exact .inl (exec_keepsSetup h hreset hwrites)
  | true =>
    cases c with
    | listClear => exact (listRow_cases h runListClear_cases).imp_right fun w => .inl ⟨.inl rfl, w⟩
    | listAppend => exact (listRow_cases h runListAppend_cases).imp_right fun w => .inl ⟨.inr rfl, w⟩
    | scanSet => exact (scanSetRow_cases h).imp_right fun w => .inr (.inl ⟨rfl, w⟩)
    | channelSet => exact .inr (.inr (.inr (.inl ⟨rfl, channelSetRow_cases h⟩)))
    | channelOff => exact (channelOffRow_cases h).imp_right fun w => .inr (.inr (.inr ⟨rfl, w⟩))
    | _ => cases hwrites

/-- A record of a table with one channel disabled differs in its enabled field at most (R18). -/
theorem State.disable_table (s : State) (m n : Fin 24) :
    { (s.disable m).table[n] with enabled := s.table[n].enabled } = s.table[n] := by
  by_cases same : m = n
  · subst same; simp [State.disable]
  · have other : (s.disable m).table[n] = s.table[n] :=
      Vector.getElem_set_ne m.isLt n.isLt fun h => same (Fin.ext h)
    rw [other]

/-- Everything a command other than CHANNEL_SET can do to the channel settings, reset apart (R13, R15, R18). -/
theorem exec_channels_cases {c : Instr} {s t : State} (h : exec c s = .next t) (hreset : isResetRow c = false)
    (hset : c ≠ .channelSet) :
    settingsOf t.table = settingsOf s.table
      ∨ (c = .channelOff ∧ ∃ n : Fin 24, settingsOf t.table = settingsOf (s.disable n).table) := by
  rcases exec_setup_cases h hreset with kept | ⟨-, -, -, table⟩ | ⟨-, -, -, table⟩ | ⟨set, -⟩
    | ⟨off, n, kept⟩
  · exact .inl kept.channels
  · exact .inl (congrArg settingsOf table)
  · exact .inl (congrArg settingsOf table)
  · exact absurd set hset
  · exact .inr ⟨off, n, kept.channels⟩

/-- Settles O6: each part is read off what a command can do to the setup. -/
theorem settingsChangeOnlyByTheirRequests : Obligations.SettingsChangeOnlyByTheirRequests := by
  refine ⟨fun c s t h hreset => ?_, fun c s t n h hreset hset => ?_⟩
  · rcases exec_setup_cases h hreset with kept | ⟨list, idle, settings, -⟩ | ⟨scan, idle, list, -⟩
      | ⟨-, list, settings⟩ | ⟨-, m, kept⟩
    · exact ⟨fun changed => absurd kept.list changed, fun changed => absurd kept.settings changed⟩
    · exact ⟨fun _ => ⟨idle, list⟩, fun changed => absurd settings changed⟩
    · exact ⟨fun changed => absurd list changed, fun _ => ⟨idle, scan⟩⟩
    · exact ⟨fun changed => absurd list changed, fun changed => absurd settings changed⟩
    · exact ⟨fun changed => absurd kept.list changed, fun changed => absurd kept.settings changed⟩
  · rcases exec_channels_cases h hreset hset with kept | ⟨off, m, kept⟩
    · have settings := settings_eq_of_settingsOf_eq kept n
      exact ⟨Channel.eq_of_settings_eq settings rfl, fun _ => (congrArg Channel.enabled settings :)⟩
    · have settings := settings_eq_of_settingsOf_eq kept n
      exact ⟨Channel.eq_of_settings_eq settings (s.disable_table m n), fun on => absurd off on⟩

end Sys2Proof.Machine
end

section
namespace Sys2Proof.Machine

/-! PROOFS. The converter's phases: ZERO and INTEGRATE end at their lengths (R27, R28, R29). -/

theorem zeroTicks_eq (m : Mode) : zeroTicks m = if m = .fast then 400 else 2000 := by cases m <;> rfl

theorem integrateTicks_eq (m : Mode) : integrateTicks m = if m = .fast then 400 else 4000 := by cases m <;> rfl

theorem deintegrateTicks_eq (m : Mode) : deintegrateTicks m = if m = .fast then 440 else 4400 := by cases m <;> rfl

theorem Converter.modeOr_of_mode {c : Converter} {m : Mode} (h : c.mode = some m) : c.modeOr = m := by
  rw [Converter.modeOr, h]; rfl

theorem Converter.functionOr_of_function {c : Converter} {f : MeasFunction} (h : c.function = some f) :
    c.functionOr = f := by
  rw [Converter.functionOr, h]; rfl

theorem Converter.phaseLimit_of_zero {c : Converter} {m : Mode} (h : c.phase = .zero) (hm : c.mode = some m) :
    c.phaseLimit = if m = .fast then 400 else 2000 := by
  rw [Converter.phaseLimit, h, ← zeroTicks_eq, ← Converter.modeOr_of_mode hm]

theorem Converter.phaseLimit_of_integrate {c : Converter} {m : Mode} (h : c.phase = .integrate)
    (hm : c.mode = some m) : c.phaseLimit = if m = .fast then 400 else 4000 := by
  rw [Converter.phaseLimit, h, ← integrateTicks_eq, ← Converter.modeOr_of_mode hm]

/-- Only a VOLT or CURR input below zero is judged negative (R29). -/
theorem judgePolarity_eq (f : MeasFunction) (input : MeanInput) :
    judgePolarity f input = if f ≠ .ohms ∧ input.microvolts < 0 then .negative else .positive := by
  cases f <;> simp [judgePolarity]

theorem State.endZero_of_ne {s : State} (h : s.conv.phase ≠ .zero) : s.endZero = s := if_neg h

theorem State.endIntegrate_of_ne {s : State} (h : s.conv.phase ≠ .integrate) (input : MeanInput) :
    s.endIntegrate input = s := if_neg h

/-- ZERO takes the time left on it, stores the offset and goes over to INTEGRATE (R27). -/
theorem State.endZero_of_zero {s : State} {m : Mode} (h : s.conv.phase = .zero) (hm : s.conv.mode = some m) :
    s.endZero = (s.advance ((if m = .fast then 400 else 2000) - s.conv.ticks)).withConv
      { s.conv with phase := .integrate, ticks := 0, offsetStored := true } := by
  rw [State.endZero, if_pos h, Converter.phaseLimit_of_zero h hm]
  dsimp only
  rw [State.advance_conv, Converter.advance_eq]

/-- INTEGRATE takes the time left on it, has the polarity judged and leaves the charge of the ideal count (R28, R29). -/
theorem State.endIntegrate_of_integrate {s : State} {m : Mode} (input : MeanInput) (h : s.conv.phase = .integrate)
    (hm : s.conv.mode = some m) :
    s.endIntegrate input = (s.advance ((if m = .fast then 400 else 4000) - s.conv.ticks)).withConv
      { s.conv with
        phase := .deintegrate, ticks := 0, polarity := judgePolarity s.conv.functionOr input
        crossing := idealCrossing m s.conv.functionOr s.selectedRange input } := by
  rw [State.endIntegrate, if_pos h, Converter.phaseLimit_of_integrate h hm, Converter.modeOr_of_mode hm]
  dsimp only
  rw [State.advance_conv, Converter.advance_eq]

/-- Settles O44: each phase by what its end does to the converter in it and out of it. -/
theorem converterRunsItsPhases : Obligations.ConverterRunsItsPhases := by
  intro s md f input live
  refine ⟨fun h => ?_, fun h => ?_, fun h hm => ?_, fun g range h hm hf hsel => ?_⟩
  · exact (whileLive_of_live live _).trans (congrArg _ (State.endZero_of_ne h))
  · exact (whileLive_of_live live _).trans (congrArg _ (State.endIntegrate_of_ne h input))
  · exact (whileLive_of_live live _).trans (congrArg _ (State.endZero_of_zero h hm))
  · have selected : s.selectedRange = range := by rw [State.selectedRange, hsel]
    have ended := State.endIntegrate_of_integrate input h hm
    rw [selected, Converter.functionOr_of_function hf] at ended
    rw [← judgePolarity_eq]
    exact (whileLive_of_live live _).trans (congrArg _ ended)

end Sys2Proof.Machine
end

section
namespace Sys2Proof.Machine

/-! PROOFS. The matrix: connect requests by rail state, phase and target, and the ends of BREAK and SETTLE (R41 to R45),
with the start of the converter (R24, R25). -/

/-! ## The start request -/

section
variable {s : State} {st : Step}

/-- A start request that finds no idle converter, no connection or no running scan is not acted on (R25). -/
theorem State.startConversion_of_not
    (h : s.conv.phase ≠ .idle ∨ s.matrix.phase ≠ .connected ∨ (s.seq.scan ≠ .running ∧ s.seq.scan ≠ .pausing)) :
    s.startConversion = s := by
  rcases s.startConversion_cases with same | ⟨st, -, idle, connected, scan, -⟩
  · exact same
  · rcases h with h | h | ⟨notRunning, notPausing⟩
    · exact absurd idle h
    · exact absurd connected h
    · exact absurd scan (not_or.2 ⟨notRunning, notPausing⟩)

/-- A start request that can be acted on starts the converter for the step's channel (R24). -/
theorem State.startConversion_of_ready (idle : s.conv.phase = .idle) (connected : s.matrix.phase = .connected)
    (current : s.currentStep = some st) (scan : s.seq.scan = .running ∨ s.seq.scan = .pausing) :
    s.startConversion = s.withConv (s.startedOn st) := by
  rw [State.startConversion, current]
  exact if_pos ⟨idle, connected, scan⟩

@[simp] theorem State.currentStep_advance (n : Nat) (s : State) : (s.advance n).currentStep = s.currentStep := by
  rw [State.currentStep, State.advance_list, State.advance_seq, Sequencer.advance_step]; rfl

/-- A connected report that comes after some time starts the converter where it could be started before (R24). -/
theorem State.startConversion_after_time (n : Nat) {m : Matrix} (connected : m.phase = .connected)
    (idle : s.conv.phase = .idle) (current : s.currentStep = some st)
    (scan : s.seq.scan = .running ∨ s.seq.scan = .pausing) :
    ((s.advance n).withMatrix m).startConversion = ((s.advance n).withMatrix m).withConv (s.startedOn st) := by
  refine State.startConversion_of_ready ?_ connected ((s.currentStep_advance n).trans current) ?_
  · rwa [State.withMatrix_conv, State.advance_conv, Converter.advance_phase]
  · rwa [State.withMatrix_seq, State.advance_seq, Sequencer.advance_scan]

/-- Time does not make a start request one that can be acted on (R25). -/
theorem State.no_startConversion_after_time (n : Nat) (m : Matrix)
    (stays : s.conv.phase ≠ .idle ∨ (s.seq.scan ≠ .running ∧ s.seq.scan ≠ .pausing)) :
    ((s.advance n).withMatrix m).startConversion = (s.advance n).withMatrix m := by
  refine State.startConversion_of_not (stays.imp (fun busy => ?_) fun scan => .inr ?_)
  · rwa [State.withMatrix_conv, State.advance_conv, Converter.advance_phase]
  · rwa [State.withMatrix_seq, State.advance_seq, Sequencer.advance_scan]

/-! ## The connect request -/

variable {t : Target}

theorem State.connect_of_rail_ne (h : s.rail.state ≠ .ready) : s.connect t = s := if_neg h

theorem State.connect_of_opened (rail : s.rail.state = .ready) (h : s.matrix.phase = .opened) :
    s.connect t = s.withMatrix (.breakTo t) := by
  rw [State.connect, if_pos rail, h]

/-- A connection in place completes at once with the connected report (R43). -/
theorem State.connect_in_place (rail : s.rail.state = .ready) (h : s.matrix.phase = .connected)
    (channel : s.matrix.channel = some t.channel) (selection : s.matrix.selection = some (t.function, t.range)) :
    s.connect t = s.startConversion := by
  rw [State.connect, if_pos rail, h]
  exact if_pos ⟨channel, selection⟩

/-- A connection elsewhere is broken (R43). -/
theorem State.connect_elsewhere (rail : s.rail.state = .ready) (h : s.matrix.phase = .connected)
    (other : s.matrix.channel ≠ some t.channel ∨ s.matrix.selection ≠ some (t.function, t.range)) :
    s.connect t = s.withMatrix (.breakTo t) := by
  rw [State.connect, if_pos rail, h]
  exact if_neg (not_and_or.2 other)

/-- A BREAK or SETTLE in progress goes on for the same target (R45). -/
theorem State.connect_same_target (h : s.matrix.phase = .breaking ∨ s.matrix.phase = .settling)
    (target : s.matrix.target = some t) : s.connect t = s := by
  by_cases rail : s.rail.state = .ready
  · rcases h with h | h <;> rw [State.connect, if_pos rail, h] <;> exact if_pos target
  · exact State.connect_of_rail_ne rail

/-- A BREAK or SETTLE in progress is given up for another target (R45). -/
theorem State.connect_other_target (rail : s.rail.state = .ready)
    (h : s.matrix.phase = .breaking ∨ s.matrix.phase = .settling) (target : s.matrix.target ≠ some t) :
    s.connect t = s.withMatrix (.breakTo t) := by
  rcases h with h | h <;> rw [State.connect, if_pos rail, h] <;> exact if_neg target

/-! ## The ends of BREAK and SETTLE -/

theorem State.endBreak_of_ne (h : s.matrix.phase ≠ .breaking) : s.endBreak = s := by
  unfold State.endBreak
  split
  case h_1 breaking _ => exact absurd breaking h
  all_goals rfl

theorem State.endSettle_of_ne (h : s.matrix.phase ≠ .settling) : s.endSettle = s := by
  unfold State.endSettle
  split
  case h_1 settling => exact absurd settling h
  all_goals rfl

/-- The matrix CONNECTED on a target (R41, R44). -/
def Matrix.connectedOn (t : Target) : Matrix := { Matrix.settleOn t with phase := .connected }

/-- BREAK takes the time left on it and goes over to SETTLE (R44). -/
theorem State.endBreak_of_settle (h : s.matrix.phase = .breaking) (target : s.matrix.target = some t)
    (settle : 0 < t.settle) :
    s.endBreak = (s.advance (40 - s.matrix.timer)).withMatrix (.settleOn t) := by
  rw [State.endBreak, h, target]
  exact if_neg (Nat.ne_of_gt settle)

/-- A settle time of 0 ends SETTLE at the moment it begins (R44). -/
theorem State.endBreak_of_no_settle (h : s.matrix.phase = .breaking) (target : s.matrix.target = some t)
    (settle : t.settle = 0) :
    s.endBreak = ((s.advance (40 - s.matrix.timer)).withMatrix (.connectedOn t)).startConversion := by
  rw [State.endBreak, h, target]
  exact if_pos settle

/-- SETTLE takes the time left on it and ends CONNECTED (R44). -/
theorem State.endSettle_of_settling (h : s.matrix.phase = .settling) (target : s.matrix.target = some t) :
    s.endSettle = ((s.advance (t.settle * 40 - s.matrix.timer)).withMatrix
      { s.matrix with phase := .connected, timer := 0 }).startConversion := by
  have limit : s.matrix.phaseLimit = t.settle * 40 := by rw [Matrix.phaseLimit, h, target]; rfl
  rw [State.endSettle, h]
  dsimp only
  rw [State.settled, limit, State.advance_matrix, Matrix.advance_eq]

end

/-- Settles O51: the connect request, the start request and the two ends, each by its cases above. -/
theorem matrixBreaksBeforeItMakes : Obligations.MatrixBreaksBeforeItMakes := by
  refine ⟨?_, fun s h => State.startConversion_of_not h, ?_⟩
  · rintro s target broken rfl
    refine ⟨State.connect_of_rail_ne, State.connect_of_opened, State.connect_elsewhere, ?_, ?_, ?_⟩
    · intro st rail connected channel selection idle current scan
      rw [State.connect_in_place rail connected channel selection]
      exact State.startConversion_of_ready idle connected current scan
    · intro rail connected channel selection busy
      rw [State.connect_in_place rail connected channel selection]
      exact State.startConversion_of_not (busy.imp_right .inr)
    · exact fun rail h => ⟨State.connect_same_target h, State.connect_other_target rail h⟩
  · intro s target live
    have breakEnd : exec .breakEnd s = .next s.endBreak := whileLive_of_live live _
    have settleEnd : exec .settleEnd s = .next s.endSettle := whileLive_of_live live _
    have excited : (target.function == .ohms) = decide (target.function = .ohms) := rfl
    rw [breakEnd, settleEnd]
    refine ⟨fun h => ?_, fun h => ?_, fun h aim settle => ?_, fun st h aim settle idle current scan => ?_,
      fun st h aim idle current scan => ?_, fun aim stays => ⟨fun h settle => ?_, fun h => ?_⟩⟩
    · rw [State.endBreak_of_ne h]
    · rw [State.endSettle_of_ne h]
    · rw [State.endBreak_of_settle h aim settle]; rfl
    · rw [State.endBreak_of_no_settle h aim settle, State.startConversion_after_time _ rfl idle current scan]; rfl
    · rw [State.endSettle_of_settling h aim, State.startConversion_after_time _ rfl idle current scan]; rfl
    · rw [State.endBreak_of_no_settle h aim settle, State.no_startConversion_after_time _ _ stays]; rfl
    · rw [State.endSettle_of_settling h aim, State.no_startConversion_after_time _ _ stays]

end Sys2Proof.Machine
end

section
namespace Sys2Proof.Machine

/-! PROOFS. Time: the scan clock (R80), the pace timer (R83, R84), every running timer, and the length of a conversion
(R23, R36). -/

/-! ## The scan clock -/

/-- In IDLE the scan clock stands (R80). -/
theorem Sequencer.clock_advance_of_idle (interval n : Nat) {q : Sequencer} (h : q.scan = .idle) :
    (q.advance interval n).clock = q.clock := by
  unfold Sequencer.advance
  rw [h]
  rfl

/-- Outside IDLE the scan clock counts all time that passes, modulo its period (R80). -/
theorem Sequencer.clock_advance_of_active (interval n : Nat) {q : Sequencer} (h : q.scan ≠ .idle) :
    (q.advance interval n).clock = (q.clock + n) % clockPeriod := by
  have clocks : (q.advance interval n).clock
      = (q.clockMs + BitVec.ofNat 32 ((q.clockTicks.val + n) / 40)).toNat * 40 + (q.clockTicks.val + n) % 40 := by
    unfold Sequencer.advance
    cases hq : q.scan with
    | idle => exact absurd hq h
    | _ => rfl
  have small := q.clockMs.isLt
  rw [clocks, BitVec.toNat_add, BitVec.toNat_ofNat, Sequencer.clock, clockPeriod]
  omega

theorem State.clock_advance_of_active (n : Nat) {s : State} (h : s.seq.scan ≠ .idle) :
    (s.advance n).seq.clock = (s.seq.clock + n) % clockPeriod :=
  Sequencer.clock_advance_of_active _ n h

/-- The scan clock never reaches its period (R80). -/
theorem Sequencer.clock_lt (q : Sequencer) : q.clock < clockPeriod := by
  have ms := q.clockMs.isLt
  have ticks := q.clockTicks.isLt
  rw [Sequencer.clock, clockPeriod]
  omega

/-- A clock of 0 ticks reads 0 ms and 0 ticks (R80). -/
theorem Sequencer.clock_eq_zero {q : Sequencer} (h : q.clock = 0) : q.clockMs = 0 ∧ q.clockTicks = 0 := by
  rw [Sequencer.clock] at h
  exact ⟨BitVec.eq_of_toNat_eq (by simp; omega), Fin.ext (by simp; omega)⟩

theorem Sequencer.ticksToWrap_eq (q : Sequencer) : q.ticksToWrap = clockPeriod - q.clock := by
  have ms := q.clockMs.isLt
  rw [Sequencer.ticksToWrap, Sequencer.clock, clockPeriod]
  omega

/-- The time left on the scan clock brings it back to 0 (R80). -/
theorem State.clock_advance_to_wrap {s : State} (h : s.seq.scan ≠ .idle) :
    (s.advance (clockPeriod - s.seq.clock)).seq.clock = 0 := by
  have below := s.seq.clock_lt
  rw [State.clock_advance_of_active _ h, Nat.add_sub_cancel' (by omega), Nat.mod_self]

theorem State.clockWrap_of_idle {s : State} (h : s.seq.scan = .idle) : s.clockWrap = s := by
  rw [State.clockWrap, h]

theorem State.clockWrap_of_active {s : State} (h : s.seq.scan ≠ .idle) :
    s.clockWrap = s.advance (clockPeriod - s.seq.clock) := by
  rw [← Sequencer.ticksToWrap_eq]
  unfold State.clockWrap
  split
  · exact absurd ‹_› h
  all_goals rfl

/-! ## The pace timer -/

/-- The pace timer has run out and the pace-due mark is set (R83). -/
def State.paceDue (g : Nat) (s : State) : State :=
  let later := s.advance (s.settings.intervalTicks - g)
  later.withSeq { later.seq with paceTimer := none, paceDue := true }

theorem State.paceExpiry_of_stopped {s : State} (h : s.seq.paceTimer = none) : s.paceExpiry = s := by
  rw [State.paceExpiry, h]

/-- Outside a pass the pace-due mark is all that the pace timer leaves (R83). -/
theorem State.paceExpiry_between_passes {s : State} {g : Nat} (h : s.seq.paceTimer = some g)
    (outside : s.withinPass = false) : s.paceExpiry = s.paceDue g := by
  unfold State.withinPass at outside
  rw [State.paceExpiry, h]
  dsimp only
  cases scan : s.seq.scan with
  | paused =>
    cases resume : s.seq.resume with
    | none => rfl
    | some r =>
      cases r with
      | toArmed => rfl
      | within c => simp [scan, resume] at outside
  | idle | armed | faulted => rfl
  | running | pausing | held => simp [scan] at outside

/-- Within a pass the pass is late as well (R84). -/
theorem State.paceExpiry_within_pass {s : State} {g : Nat} (h : s.seq.paceTimer = some g)
    (inside : s.withinPass = true) : s.paceExpiry = (s.paceDue g).latePass := by
  unfold State.withinPass at inside
  rw [State.paceExpiry, h]
  dsimp only
  cases scan : s.seq.scan with
  | paused =>
    cases resume : s.seq.resume with
    | none => simp [scan, resume] at inside
    | some r =>
      cases r with
      | toArmed => simp [scan, resume] at inside
      | within c => rfl
  | idle | armed | faulted => simp [scan] at inside
  | running | pausing | held => rfl

/-- The last pass of a limited scan is never late (R84). -/
theorem State.latePass_of_last {s : State} (limited : s.settings.passes ≠ 0)
    (last : s.seq.passesDone + 1 = s.settings.passes) : s.latePass = s :=
  if_pos (by simp [State.lastPass, limited, last])

theorem State.latePass_of_more {s : State} (more : s.settings.passes = 0 ∨ s.seq.passesDone + 1 ≠ s.settings.passes) :
    s.latePass = s.raise .paceOverrun (BitVec.ofNat 16 s.seq.pass) :=
  if_neg (by rcases more with h | h <;> simp [State.lastPass, h])

/-! ## Every running timer -/

/-- There is one way to count up to a limit and stop there. -/
theorem eq_tickTo {n : Nat} {count : Nat → Nat → Nat}
    (h : ∀ top t : Nat, (top ≤ t → count top t = t) ∧ (t ≤ top → count top t = min (t + n) top)) :
    count = fun top => tickTo top n := by
  funext top t
  obtain ⟨stays, counts⟩ := h top t
  rw [tickTo]
  split
  next done => exact stays done
  next runs => exact counts (by omega)

theorem zeroTicks_modeOr (c : Converter) : zeroTicks c.modeOr = if c.mode = some .fast then 400 else 2000 := by
  rw [zeroTicks_eq, Converter.modeOr]
  cases c.mode <;> simp

theorem integrateTicks_modeOr (c : Converter) :
    integrateTicks c.modeOr = if c.mode = some .fast then 400 else 4000 := by
  rw [integrateTicks_eq, Converter.modeOr]
  cases c.mode <;> simp

theorem deintegrateTicks_modeOr (c : Converter) :
    deintegrateTicks c.modeOr = if c.mode = some .fast then 440 else 4400 := by
  rw [deintegrateTicks_eq, Converter.modeOr]
  cases c.mode <;> simp

/-- What time does to the converter: the ticks of its phase count up to the phase's length (R22, R23). -/
theorem Converter.advance_ticks (n : Nat) (c : Converter) : c.advance n = { c with
    ticks := match c.phase with
      | .idle => c.ticks
      | .zero => tickTo (if c.mode = some .fast then 400 else 2000) n c.ticks
      | .integrate => tickTo (if c.mode = some .fast then 400 else 4000) n c.ticks
      | .deintegrate => tickTo (c.crossing.getD (if c.mode = some .fast then 440 else 4400)) n c.ticks } := by
  rw [← zeroTicks_modeOr, ← integrateTicks_modeOr, ← deintegrateTicks_modeOr]
  obtain ⟨phase, ticks, function, mode, polarity, rawCount, offset, crossing⟩ := c
  cases phase <;> rfl

/-- What time does to the matrix: the phase timer counts up to the end of BREAK or SETTLE (R40, R44). -/
theorem Matrix.advance_timer (n : Nat) (m : Matrix) : m.advance n = { m with
    timer := match m.phase with
      | .opened | .connected => m.timer
      | .breaking => tickTo 40 n m.timer
      | .settling => tickTo (match m.target with | some t => t.settle * 40 | none => 0) n m.timer } := by
  obtain ⟨phase, channel, selection, excitation, target, timer⟩ := m
  cases phase with
  | settling => cases target <;> rfl
  | _ => rfl

/-- Settles O55: the pace timer by where the scan stands, the clock by its count of ticks, and the timers one by one. -/
theorem paceTimerAndScanClockRunOut : Obligations.PaceTimerAndScanClockRunOut := by
  refine ⟨fun s due g live => ⟨fun stopped => ?_, fun runs hdue => ?_⟩, fun s live => ⟨fun idle => ?_, fun active => ?_⟩,
    fun s n => ?_, fun s empty => ?_, ?_⟩
  · exact (whileLive_of_live live _).trans (congrArg _ (State.paceExpiry_of_stopped stopped))
  · have expiry : exec .paceTimerExpiry s = .next s.paceExpiry := whileLive_of_live live _
    obtain rfl : due = s.paceDue g := hdue
    rw [expiry]
    refine ⟨fun outside => ?_, fun inside limited last => ?_, fun inside more => ?_⟩
    · have notWithin : s.withinPass = false := by
        unfold State.withinPass
        rcases outside with h | h | ⟨h, hr⟩ <;> simp [*]
      rw [State.paceExpiry_between_passes runs notWithin]
    · rw [State.paceExpiry_within_pass runs inside, State.latePass_of_last]
      · exact limited
      · exact (congrArg (· + 1) (Sequencer.advance_passesDone _ _ _)).trans last
    · rw [State.paceExpiry_within_pass runs inside, State.latePass_of_more]
      · exact congrArg (fun k => Host.Outcome.next ((s.paceDue g).raise .paceOverrun (BitVec.ofNat 16 k)))
          (Sequencer.advance_pass _ _ _)
      · exact more.imp_right fun h => ((congrArg (· + 1) (Sequencer.advance_passesDone _ _ _)).trans_ne h)
  · exact (whileLive_of_live live _).trans (congrArg _ (State.clockWrap_of_idle idle))
  · exact ⟨(whileLive_of_live live _).trans (congrArg _ (State.clockWrap_of_active active)),
      Sequencer.clock_eq_zero (State.clock_advance_to_wrap active)⟩
  · split
    next idle => exact Sequencer.clock_advance_of_idle _ n idle
    next active => exact State.clock_advance_of_active n active
  · have ticks : step s = .next s.tick := by rw [step, empty]
    rw [ticks, State.tick]
    exact ⟨fun low => by rw [if_pos low], fun high => by rw [if_neg (ne_true_of_eq_false high)]⟩
  · rintro s n _ _ _ _ count rfl rfl rfl rfl counts
    obtain rfl := eq_tickTo counts
    refine ⟨(s.advance n).seq, ?_, ?_⟩
    · have conv := Converter.advance_ticks n s.conv
      have matrix := Matrix.advance_timer n s.matrix
      conv_lhs => rw [State.advance, conv, matrix]
      rfl
    · have seq := Sequencer.advance_eq s.settings.intervalTicks n s.seq
      rw [Sequencer.advance_paceTimer] at seq
      exact seq

end Sys2Proof.Machine
end

section
namespace Sys2Proof.Machine

/-! PROOFS. What the sample loop keeps, gone through once: every property of the state that its single moves keep. -/

/-- The single moves of the sample loop, range control and the scan keep a property: the measurement path and the
sequencer go anywhere without touching the scan clock, an event is raised, a record is evaluated, a range is remembered,
and the queue keeps its list, takes a fresh record, or takes one for its oldest fresh one. -/
structure KeptByLoop (P : State → Prop) : Prop where
  moved : ∀ (s : State) {c : Converter} {m : Matrix} {r : Rail} {g : Ranging} {q : Sequencer}, q.clock = s.seq.clock →
    P s → P { s with conv := c, matrix := m, rail := r, ranging := g, seq := q }
  raised : ∀ {s : State} {k : EventKind} {d : Word16}, P s → P (s.raise k d)
  evaluated : ∀ {s : State} (r : Record), P s → P (s.evaluate r).2
  remembered : ∀ {s : State} {n : Fin 24} {r : Nat}, P s → P (s.setChannel n { s.table[n] with remembered := r })
  relisted : ∀ {s : State} {q : ResultQueue}, q.list = s.queue.list → P s → P (s.withQueue q)
  appended : ∀ {s : State} {q : ResultQueue} (r : Record), q.list = s.queue.list ++ [{ record := r, sent := false }] →
    P s → P (s.withQueue q)
  replaced : ∀ {s : State} (r : Record), P s → P (s.withQueue (s.queue.dropOldestFresh.append r))

namespace KeptByLoop
variable {P : State → Prop} (kept : KeptByLoop P) {s : State}
include kept

theorem startConversion (h : P s) : P s.startConversion := by
  rcases s.startConversion_cases with same | ⟨st, -, -, -, -, started⟩
  · rwa [same]
  · rw [started]; exact kept.moved s rfl h

theorem connect (t : Target) (h : P s) : P (s.connect t) := by
  rcases s.connect_cases t with same | ⟨-, breaks⟩ | ⟨-, -, -, -, reports⟩
  · rwa [same]
  · rw [breaks]; exact kept.moved s rfl h
  · rw [reports]; exact kept.startConversion h

theorem admitRecord (r : Record) (h : P s) : P (s.admitRecord r).2 := by
  rcases s.admitRecord_cases r with ⟨-, e⟩ | ⟨-, -, e⟩ | ⟨-, e⟩ | ⟨lost, -, -, -, e⟩ <;> rw [e]
  · exact kept.appended r rfl h
  · exact kept.relisted rfl h
  · exact kept.raised h
  · exact kept.raised (kept.replaced r h)

theorem assign (draft : Record) (h : P s) : P (s.assign draft).2 :=
  kept.moved (s.withQueue { s.queue with nextSeq := s.queue.nextSeq + 1 }) rfl (kept.relisted rfl h)

theorem produce (draft : Record) (h : P s) : P (s.produce draft).2 :=
  kept.admitRecord _ (kept.evaluated _ (kept.assign draft h))

theorem completeStep (st : Step) (h : P s) : P (s.completeStep st) := by
  have done : P ((s.withRanging { s.ranging with lock := none }).withSeq { s.seq with acc := .empty }) :=
    kept.moved s rfl h
  unfold State.completeStep
  dsimp only
  split
  · exact kept.raised done
  · exact done

theorem endPass (h : P s) : P s.endPass := by
  have passed : P (s.raise .passDone (BitVec.ofNat 16 s.seq.pass)) := kept.raised h
  unfold State.endPass
  dsimp only
  split
  · exact kept.raised (kept.moved (s.raise .passDone (BitVec.ofNat 16 s.seq.pass)) rfl passed)
  · split <;> exact kept.moved (s.raise .passDone (BitVec.ofNat 16 s.seq.pass)) rfl passed

theorem beginSample (st : Step) (h : P s) : P (s.beginSample st) :=
  kept.connect _ (kept.moved s rfl h)

theorem startSteps (steps : List Step) : ∀ {s : State}, P s → P (startSteps steps s) := by
  induction steps with
  | nil => exact kept.endPass
  | cons st rest ih =>
    intro s h
    have made (r : Record) : P (((s.withSeq { s.seq with sample := 0 }).produce r).2.completeStep st) :=
      kept.completeStep st (kept.produce r (kept.moved s rfl h))
    rw [Machine.startSteps]
    split
    · exact kept.beginSample st (kept.moved s rfl h)
    · dsimp only
      split
      · exact kept.moved _ rfl (made _)
      · exact ih (kept.moved _ rfl (made _))

theorem takeContinuation (c : Continuation) (h : P s) : P (s.takeContinuation c) := by
  unfold State.takeContinuation
  cases c with
  | measure =>
    dsimp only
    split
    · exact h
    · exact kept.connect _ (kept.moved s rfl h)
  | nextSample =>
    dsimp only
    split
    · exact h
    · exact kept.beginSample _ (kept.moved s rfl h)
  | redoStep => exact kept.startSteps _ h
  | nextStep => exact kept.startSteps _ (kept.moved s rfl h)
  | endPass => exact kept.endPass h

theorem goOnWith (c : Continuation) (h : P s) : P (s.goOnWith c) := by
  unfold State.goOnWith
  split
  · cases c with
    | endPass => exact kept.endPass h
    | _ => exact kept.moved s rfl h
  · exact kept.takeContinuation c h

theorem holdWith (c : Continuation) (h : P s) : P (s.holdWith c) := by
  unfold State.holdWith
  split <;> exact kept.moved s rfl h

theorem deliver (st : Step) (last : Bool) (draft : Record) (h : P s) : P (s.deliver st last draft) := by
  have made := kept.produce draft h
  have done : P (if last then (s.produce draft).2.completeStep st else (s.produce draft).2) := by
    split
    · exact kept.completeStep st made
    · exact made
  unfold State.deliver
  dsimp only
  split
  · exact kept.goOnWith _ done
  · exact kept.holdWith _ done

theorem takeSample (st : Step) (a : Sample) (h : P s) : P (s.takeSample st a) := by
  unfold State.takeSample
  dsimp only
  split
  · split
    · exact kept.goOnWith _ (kept.moved s rfl h)
    · exact kept.deliver _ _ _ (kept.moved s rfl h)
  · exact kept.deliver _ _ _ h

theorem acceptOutcome (st : Step) (hunt : Bool) (o : ConvOutcome) (h : P s) : P (s.acceptOutcome st hunt o) := by
  unfold State.acceptOutcome
  dsimp only
  refine kept.takeSample _ _ ?_
  split
  · exact kept.moved (s.setChannel _ _) rfl (kept.remembered h)
  · exact kept.moved s rfl h

theorem takeOutcome (o : ConvOutcome) (h : P s) : P (s.takeOutcome o) := by
  have judged (st : Step) : P (s.judge st o) := by
    unfold State.judge
    split
    · split
      · exact kept.acceptOutcome _ _ _ h
      · split
        · exact kept.acceptOutcome _ _ _ h
        · exact kept.connect _ (kept.moved s rfl h)
    · exact kept.acceptOutcome _ _ _ h
  unfold State.takeOutcome
  split
  case h_1 | h_2 =>
    split
    · exact judged _
    · exact h
  all_goals exact h

theorem holdOver (h : P s) : P s.holdOver := by
  unfold State.holdOver
  split
  · exact kept.takeContinuation _ (kept.moved s rfl h)
  · exact kept.moved s rfl h
  all_goals exact h

theorem drain (removed : Nat) (h : P s) : P (s.drain removed) := by
  unfold State.drain
  split
  · split
    · exact kept.holdOver (kept.appended _ rfl h)
    · exact h
  · exact h

theorem channelChanged (n : Fin 24) (h : P s) : P (s.channelChanged n) := by
  unfold State.channelChanged
  split
  · exact h
  split
  · split
    · exact kept.takeContinuation _ (kept.moved s rfl h)
    · exact kept.moved s rfl h
    · split
      · split
        · exact kept.moved s rfl h
        · exact h
      · exact h
    · split
      · split
        · exact kept.moved s rfl h
        · exact h
      · exact h
      · exact h
    all_goals exact h
  · exact h

theorem discardStaged (h : P s) : P s.discardStaged := by
  unfold State.discardStaged
  split
  · exact kept.raised (kept.relisted rfl h)
  · exact h

theorem stopScan (h : P s) : P s.stopScan := by
  have cut : P s.abortConversion.openMatrix.discardStaged := kept.discardStaged (kept.moved s rfl h)
  unfold State.stopScan
  split
  · exact h
  all_goals exact kept.moved s.abortConversion.openMatrix.discardStaged rfl cut

theorem railFault (cause : RailCause) (h : P s) : P (s.railFault cause) := by
  unfold State.railFault
  dsimp only
  split <;> exact kept.raised (kept.moved s rfl h)

theorem triggerLatch (h : P s) : P s.triggerLatch := by
  unfold State.triggerLatch
  split
  · exact h
  all_goals
    split
    · exact kept.raised h
    · exact kept.moved s rfl h

end KeptByLoop

/-! ## The scan clock -/

/-- The sample loop never touches the scan clock (R80). -/
theorem clock_keptByLoop (k : Nat) : KeptByLoop fun s => s.seq.clock = k where
  moved _ _ _ _ _ _ same h := same.trans h
  raised h := h
  evaluated {s} r h := by
    rcases (s.evaluate_cases r).2 with e | ⟨-, e⟩ | ⟨-, e⟩ <;> rw [e] <;> exact h
  remembered h := h
  relisted _ h := h
  appended _ _ h := h
  replaced _ h := h

/-- Whatever follows a conversion's outcome takes no time. -/
theorem State.clock_completeConversion (o : ConvOutcome) (s : State) :
    (s.completeConversion o).seq.clock = s.seq.clock :=
  (clock_keptByLoop s.seq.clock).takeOutcome o rfl

end Sys2Proof.Machine
end

section
namespace Sys2Proof.Machine

/-! PROOFS. How long a conversion takes (R23, R36, R80). -/

/-- DEINTEGRATE ends at the crossing, after the time left until then (R30). -/
theorem State.crossThreshold_of_crossing {s : State} {m : Nat} (h : s.conv.phase = .deintegrate)
    (hc : s.conv.crossing = some m) :
    ∃ o, s.crossThreshold = (s.advance (m - s.conv.ticks)).completeConversion o := by
  unfold State.crossThreshold
  rw [h, hc]
  exact ⟨_, rfl⟩

/-- Without a crossing DEINTEGRATE ends at its limit, after the time left until then (R33). -/
theorem State.reachLimit_of_no_crossing {s : State} {m : Mode} (h : s.conv.phase = .deintegrate)
    (hc : s.conv.crossing = none) (hm : s.conv.mode = some m) :
    ∃ o, s.reachLimit = (s.advance ((if m = .fast then 440 else 4400) - s.conv.ticks)).completeConversion o := by
  unfold State.reachLimit
  rw [h, hc, Converter.modeOr_of_mode hm, deintegrateTicks_eq]
  exact ⟨_, rfl⟩

/-- A conversion that begins its DEINTEGRATE ends with the scan clock counted on by the time it took. -/
theorem State.clock_after_conversion {s : State} (n : Nat) (active : s.seq.scan ≠ .idle) (o : ConvOutcome) :
    ((s.advance n).completeConversion o).seq.clock = (s.seq.clock + n) % clockPeriod := by
  rw [State.clock_completeConversion, State.clock_advance_of_active n active]

/-- ZERO and INTEGRATE of a conversion that starts now: the converter is then at the start of DEINTEGRATE, and the scan
clock has counted their two lengths (R27, R28, R80). -/
theorem State.zero_integrate {s : State} {md : Mode} (input : MeanInput) (active : s.seq.scan ≠ .idle)
    (zero : s.conv.phase = .zero) (start : s.conv.ticks = 0) (mode : s.conv.mode = some md) :
    (s.endZero.endIntegrate input).conv.phase = .deintegrate ∧ (s.endZero.endIntegrate input).conv.ticks = 0
      ∧ (s.endZero.endIntegrate input).conv.mode = some md ∧ (s.endZero.endIntegrate input).seq.scan ≠ .idle
      ∧ (s.endZero.endIntegrate input).seq.clock
        = (s.seq.clock + if md = .fast then 800 else 6000) % clockPeriod := by
  have zeroed := State.endZero_of_zero zero mode
  have active' : s.endZero.seq.scan ≠ .idle := by
    rw [zeroed, State.withConv_seq, State.advance_seq, Sequencer.advance_scan]; exact active
  have phase : s.endZero.conv.phase = .integrate := by rw [zeroed]; rfl
  have mode' : s.endZero.conv.mode = some md := by rw [zeroed]; exact mode
  have ticks : s.endZero.conv.ticks = 0 := by rw [zeroed]; rfl
  have integrated := State.endIntegrate_of_integrate input phase mode'
  rw [integrated]
  refine ⟨rfl, rfl, mode', ?_, ?_⟩
  · rw [State.withConv_seq, State.advance_seq, Sequencer.advance_scan]; exact active'
  · rw [State.withConv_seq, State.clock_advance_of_active _ active', zeroed, State.withConv_seq,
      State.clock_advance_of_active _ active, start]
    cases md <;> simp [Nat.add_assoc]

/-- Settles O46: the two fixed phases together, and then the two ways in which DEINTEGRATE ends. -/
theorem conversionTakesItsTicks : Obligations.ConversionTakesItsTicks := by
  intro s a b t md input live active zero start mode hzero hintegrate
  obtain rfl : a = s.endZero := Host.Outcome.next.inj (hzero.symm.trans (whileLive_of_live live _))
  have live' : s.endZero.pins.resetLow = false := by rw [State.endZero_of_zero zero mode]; exact live
  obtain rfl : b = s.endZero.endIntegrate input :=
    Host.Outcome.next.inj (hintegrate.symm.trans (whileLive_of_live live' _))
  have live'' : (s.endZero.endIntegrate input).pins.resetLow = false := by
    unfold State.endIntegrate; split <;> exact live'
  obtain ⟨phase, ticks, mode', active', clock⟩ := State.zero_integrate input active zero start mode
  refine ⟨fun m crossing hcross => ?_, fun noCrossing hlimit => ?_⟩
  · obtain ⟨o, crossed⟩ := State.crossThreshold_of_crossing phase crossing
    obtain rfl : t = _ := Host.Outcome.next.inj (hcross.symm.trans (whileLive_of_live live'' _))
    rw [crossed, State.clock_after_conversion _ active', clock, ticks]
    simp [Nat.add_assoc]
  · obtain ⟨o, limited⟩ := State.reachLimit_of_no_crossing phase noCrossing mode'
    obtain rfl : t = _ := Host.Outcome.next.inj (hlimit.symm.trans (whileLive_of_live live'' _))
    rw [limited, State.clock_after_conversion _ active', clock, ticks]
    cases md <;> simp [Nat.add_assoc]

end Sys2Proof.Machine
end

section
namespace Sys2Proof.Machine

/-! PROOFS. STOP (R99), and CHANNEL_SET for the channel of the current step (R101, R102). -/

/-! ## STOP -/

/-- The staged record goes, and QUEUE_LOSS is raised with its number (R99, R117). -/
theorem State.discardStaged_eq (s : State) : s.discardStaged = { s with
    queue := { s.queue with staged := none }
    events := match s.queue.staged with
      | some r => s.events.raise .queueLoss r.seq
      | none => s.events } := by
  unfold State.discardStaged
  cases staged : s.queue.staged with
  | some r => rfl
  | none =>
    have empty : { s.queue with staged := none } = s.queue := by rw [← staged]
    rw [empty]

/-- STOP semantics in a scan that is not IDLE (R99). -/
theorem State.stopScan_eq {s : State} (active : s.seq.scan ≠ .idle) : s.stopScan = { s with
    conv := .idle, matrix := .opened, ranging := .dropped, rail := s.rail.release
    queue := { s.queue with staged := none }
    events := match s.queue.staged with
      | some r => s.events.raise .queueLoss r.seq
      | none => s.events
    seq := { s.seq with scan := .idle, step := 0, sample := 0, cont := none, resume := none, acc := .empty,
                        redo := false, paceTimer := none, paceDue := false, latch := false } } := by
  unfold State.stopScan
  rw [State.discardStaged_eq]
  cases scan : s.seq.scan with
  | idle => exact absurd scan active
  | _ => rfl

theorem State.stopScan_of_idle {s : State} (idle : s.seq.scan = .idle) : s.stopScan = s := by
  rw [State.stopScan, idle]

theorem State.stopScan_leaveInbound (s : State) (rest : List Frame) :
    (s.leaveInbound rest).stopScan = s.stopScan.leaveInbound rest := by
  rw [State.leaveInbound, State.leaveInbound, State.stopScan_withLink, s.stopScan_around.link]

theorem runStop_badLength {p : List Byte} (h : p ≠ []) (s : State) : runStop p s = refuse .badLength s :=
  if_pos (mt List.length_eq_zero_iff.1 h)

/-- STOP with no payload answers DONE after STOP semantics (R99). -/
theorem exec_stop_done {s : State} {token : Byte} {rest : List Frame}
    (h : s.Executes { kind := 0x22, token := token, payload := [] } rest) :
    exec .stop s = .next (s.stopScan.answered { kind := 0x22, token := token, payload := [] } rest [0x00]) :=
  row_does h rfl (congrArg (replyDone []) (s.stopScan_leaveInbound rest))

/-- Settles O29: a payload is refused, IDLE has nothing to stop, and any other state is cut off. -/
theorem stopCutsTheScanOff : Obligations.StopCutsTheScanOff := by
  intro s token p rest h
  refine ⟨fun hp => row_refuses h rfl (runStop_badLength hp), ?_, ?_⟩
  · rintro rfl idle
    rw [exec_stop_done h, State.stopScan_of_idle idle]
  · rintro rfl active
    rw [exec_stop_done h, State.stopScan_eq active]
    rfl

/-! ## CHANNEL_SET in flight -/

/-- Starting an enabled step anew, with the matrix open and no step lock held, breaks to its channel on the range that
R60 gives its first sample (R42, R60, R87). -/
theorem State.takeContinuation_redoStep_enabled {u : State} {st : Step} (current : u.currentStep = some st)
    (enabled : u.table[st.channel].enabled = true) (rail : u.rail.state = .ready) (opened : u.matrix.phase = .opened)
    (unlocked : u.ranging.lock = none) {range : Nat}
    (hrange : range = (match u.table[st.channel].range with
      | .fixed r => r | .auto => u.table[st.channel].remembered)) :
    u.takeContinuation .redoStep = { u with
      matrix := u.breakingTo st range
      ranging := { sampleRange := some range, changes := 0, lock := none }
      seq := { u.seq with sample := 1, cont := some .measure } } := by
  obtain ⟨inList, isStep⟩ := List.getElem?_eq_some_iff.1 current
  have position : u.list.drop u.seq.step = st :: u.list.drop (u.seq.step + 1) := by
    rw [List.drop_eq_getElem_cons inList, isStep]
  have first : (u.withSeq { u.seq with sample := 1 }).firstRange st = range := by
    rw [hrange, State.firstRange]
    dsimp only [State.withSeq_table, State.withSeq_ranging]
    rw [unlocked]
    cases u.table[st.channel].range <;> simp
  show startSteps (u.list.drop u.seq.step) u = _
  rw [position, startSteps, if_pos enabled, State.beginSample, first]
  dsimp only
  rw [State.connect_of_opened]
  · rw [State.withSeq_ranging, unlocked]; rfl
  · exact rail
  · exact opened

/-- Settles O21: the record is written first, and then the scan state decides what becomes of the current step. -/
theorem channelSetInFlightStartsTheStepAgain : Obligations.ChannelSetInFlightStartsTheStepAgain := by
  intro s token n c unused rest st table limit range legal hun h current hn htable hlimit hrange
  have named : channelOf (field8 (c.payload n unused) 0) = some n := channelOf_byteOf n _
  have line : lineLevel s.limit.mode s.limit.latch table
      = if s.limit.mode = .follow then table.toList.any (fun d => d.trip = .tripped) else s.limit.latch := by
    cases s.limit.mode <;> rfl
  have written : (s.setChannel n c.record).updateLine = { s with table := table, limit := limit } := by
    rw [State.updateLine, State.setChannel_eq, hlimit, ← line, htable]; rfl
  have answer := exec_channelSet_done h (c.payload_length n hun) named (decodeChannelSettings_payload n legal unused)
  rw [written] at answer
  have current' : ({ s with table := table, limit := limit } : State).currentStep = some st := current
  refine ⟨fun scan rail => ?_, fun scan => ?_, fun scan => ⟨?_, ?_⟩, fun scan => ⟨?_, ?_⟩⟩
  · have record : table[st.channel] = c.record := by simp [htable, hn, ChannelSettings.record]
    rw [answer, State.channelChanged_running current' hn scan,
      State.takeContinuation_redoStep_enabled (st := st) (range := range)]
    · rw [State.breakingTo, record, hn]; rfl
    · exact current
    · dsimp only; rw [record]; rfl
    · exact rail
    · rfl
    · rfl
    · dsimp only; rw [record, hrange]; rfl
  · rw [answer, State.channelChanged_pausing current' hn scan]
  · rintro (hc | hc | hc) <;> rw [answer, State.channelChanged_held_unfinished current' hn scan hc rfl]
  · rintro (hc | hc) <;> rw [answer, State.channelChanged_held_complete current' hn scan hc rfl]
  · rintro (hc | hc | hc) <;> rw [answer, State.channelChanged_paused_unfinished current' hn scan hc rfl]
  · rintro (hc | hc) <;> rw [answer, State.channelChanged_paused_complete current' hn scan hc rfl]

end Sys2Proof.Machine
end

section
namespace Sys2Proof.Machine

/-! PROOFS. What the commands keep, gone through once: every property of the state that their single moves keep, block by
block. -/

/-- The single moves of the commands keep a property: those of the sample loop, the passing of time, and what the
requests, the reports, the characters and the timers do to one block each. -/
structure KeptByCommands (P : State → Prop) : Prop where
  loop : KeptByLoop P
  /-- settings, measurement path, sequencer and waiting commands go anywhere -/
  jumped : ∀ (s : State) {c : Converter} {m : Matrix} {r : Rail} {g : Ranging} {z : Settings} {q : Sequencer}
    {w : List Instr}, P s →
    P { s with conv := c, matrix := m, rail := r, ranging := g, settings := z, seq := q, pending := w }
  timed : ∀ {s : State} (n : Nat), P s → P (s.advance n)
  reset : ∀ (s : State) (p : Pins), P (s.resetWith p)
  restarted : ∀ {s : State}, P s → P s.clearWork
  -- the channel table, the list and the line
  written : ∀ {s : State} (n : Fin 24) (c : ChannelSettings), P s → P (s.setChannel n c.record).updateLine
  disabled : ∀ {s : State} (n : Fin 24), P s → P (s.disable n)
  listed : ∀ {s : State} {l : List Step}, l.length ≤ 64 → P s → P (s.withList l)
  lineMode : ∀ {s : State} (m : LineMode), P s → P (s.setLineMode m)
  unlatched : ∀ {s : State}, P s → P s.clearLatch
  -- the events
  eventsCleared : ∀ {s : State} (m : Word16), P s → P (s.withEvents (s.events.clearSet m))
  subscribed : ∀ {s : State} {m : Word16}, eventSetLegal m = true → P s → P (s.withEvents (s.events.subscribe m))
  reported : ∀ {s : State} (k : EventKind), P s →
    P (s.withEvents (s.events.set k { s.events.get k with due := false }))
  -- the queue and the stream
  fetched : ∀ {s : State} (n : Nat), s.stream.state = .off → P s →
    P (s.withQueue { s.queue with list := s.queue.list.drop n })
  streamOn : ∀ {s : State} {w : Nat}, 1 ≤ w → w ≤ 8 → P s → P (s.streamOn w)
  streamOff : ∀ {s : State}, P s → P s.streamOff
  acknowledged : ∀ {s : State} (a : Word16) (k : Nat), s.stream.state = .on →
    k = s.stream.inFlight - ((s.queue.list.take s.stream.inFlight).filter (s.queue.ackRemoves a)).length → P s →
    P ((s.withQueue { s.queue with list := s.queue.list.filter fun e => !s.queue.ackRemoves a e }).withStream
      { s.stream with inFlight := k, timeouts := 0, timer := if 0 < k then some 0 else none })
  composed : ∀ {s : State}, s.stream.state = .on → s.stream.inFlight < s.stream.window →
    s.stream.inFlight < s.queue.list.length → P s → P s.composeResults
  timedOut : ∀ {s : State}, s.stream.timer.isSome = true → P s → P (s.withStream { s.stream with
    inFlight := 0, timer := none, timeouts := s.stream.timeouts + 1
    state := if 8 ≤ s.stream.timeouts + 1 then .stalled else s.stream.state })
  -- the link
  dequeued : ∀ {s : State} {f : Frame} {rest : List Frame}, s.link.inbound = f :: rest → P s → P (s.leaveInbound rest)
  finished : ∀ {s : State} {f : Frame} {p : List Byte}, isRequestKind f.kind = true → f.token ≠ 0 →
    s.link.replies.length < 4 → 1 ≤ p.length → p.length ≤ 60 → P s → P (State.finishRequest f (p, s))
  answered : ∀ {s : State} {r : Frame}, s.link.replies.length < 4 → 1 ≤ r.payload.length → r.payload.length ≤ 60 →
    P s → P (s.addReply r)
  repeated : ∀ {s : State} {f r : Frame}, s.link.replies.length < 4 → s.link.cached f = some r → P s → P (s.addReply r)
  replyTaken : ∀ {s : State} {r : Frame} {rest : List Frame}, s.link.replies = r :: rest → P s →
    P (s.withLink { s.link with replies := rest })
  sent : ∀ {s : State} (b : Option (List Byte)), P s → P (s.withLink { s.link with sending := b })
  received : ∀ {s : State} (b : Byte), P s → P (s.withLink (s.link.character b))
  framingFailed : ∀ {s : State}, P s → P (s.withLink s.link.framingFailure)

/-- What the execution of a request does with a property: it is kept, the reply queue is left alone, and the reply has a
payload that fits a frame (R172, R179). -/
structure Execution.Keeps (P : State → Prop) (s : State) (e : Execution) : Prop where
  kept : P e.2
  replies : e.2.link.replies = s.link.replies
  payload : 1 ≤ e.1.length ∧ e.1.length ≤ 60

section
variable {P : State → Prop} {s : State}

theorem Execution.Keeps.refused (h : P s) (o : ReplyOutcome) : Execution.Keeps P s (refuse o s) :=
  ⟨h, rfl, Nat.le_refl 1, Nat.le_add_left 1 59⟩

/-- A request whose checks are passed or refused. -/
theorem Execution.Keeps.checked (h : P s) {p : Prop} [Decidable p] {o : ReplyOutcome} {e : Execution}
    (passed : ¬p → Execution.Keeps P s e) : Execution.Keeps P s (if p then refuse o s else e) := by
  split
  · exact .refused h o
  next ok => exact passed ok

/-- A request that is done. -/
theorem Execution.Keeps.done {t : State} {fields : List Byte} (h : P t) (replies : t.link.replies = s.link.replies)
    (fits : fields.length ≤ 59) : Execution.Keeps P s (replyDone fields t) :=
  ⟨h, replies, Nat.le_add_left 1 _, Nat.succ_le_succ fits⟩

end

/-- What an effect keeps, its command keeps, on a live part and on one held in reset. -/
theorem keeps_of_effect {P : State → Prop} {s t : State} {f : State → State} (effect : whileLive s f = .next t)
    (hf : P s → P (f s)) (h : P s) : P t := by
  rcases whileLive_cases s f with ⟨-, held⟩ | ⟨-, live⟩
  · rwa [Host.Outcome.next.inj (effect.symm.trans held)]
  · rw [Host.Outcome.next.inj (effect.symm.trans live)]; exact hf h

/-! ## The lengths of the replies -/

@[simp] theorem bytes16_length (n : Nat) : (bytes16 n).length = 2 := rfl
@[simp] theorem bytes32_length (n : Nat) : (bytes32 n).length = 4 := rfl
@[simp] theorem signedBytes16_length (i : Int) : (signedBytes16 i).length = 2 := rfl
@[simp] theorem signedBytes32_length (i : Int) : (signedBytes32 i).length = 4 := rfl

@[simp] theorem recordBytes_length (r : Record) : (recordBytes r).length = 19 := by simp [recordBytes]

theorem recordsBytes_length (rs : List Record) : (recordsBytes rs).length = 1 + 19 * rs.length := by
  induction rs with
  | nil => rfl
  | cons r rs ih => simp [recordsBytes, List.flatMap_cons] at ih ⊢; omega

theorem channelBytes_length (n : Fin 24) (c : Channel) : (channelBytes n c).length = 21 := by
  unfold channelBytes
  cases c.window <;> simp

theorem statusBytes_length (s : State) : s.statusBytes.length = 27 := by simp [State.statusBytes]

theorem eventTable_bytes_length (t : EventTable) : t.bytes.length = 56 := by
  simp [EventTable.bytes, eventKinds, entryBytes]

theorem indexedStepBytes_length (i : Nat) (l : List Step) : (indexedStepBytes i l).length = 3 * l.length := by
  induction l generalizing i with
  | nil => rfl
  | cons st l ih => simp [indexedStepBytes, stepBytes, ih]; omega

theorem fetched_length_le (n : Nat) (s : State) : (s.fetched n).length ≤ n := by simp [State.fetched]

/-! ## The requests -/

section
variable {P : State → Prop} {s : State}

theorem keeps_runIdentify (p : List Byte) (h : P s) : Execution.Keeps P s (runIdentify p s) :=
  .checked h fun _ => .done h rfl (by decide)

theorem keeps_runStatus (p : List Byte) (h : P s) : Execution.Keeps P s (runStatus p s) :=
  .checked h fun _ => .done h rfl (by rw [statusBytes_length]; decide)

theorem keeps_runChannelGet (p : List Byte) (h : P s) : Execution.Keeps P s (runChannelGet p s) := by
  refine .checked h fun _ => ?_
  split
  · exact .refused h _
  · exact .done h rfl (by rw [channelBytes_length]; decide)

theorem keeps_runListRead (p : List Byte) (h : P s) : Execution.Keeps P s (runListRead p s) := by
  refine .checked h fun _ => .checked h fun legal => .done h rfl ?_
  have steps : ((s.list.drop (field8 p 0)).take (field8 p 1)).length ≤ field8 p 1 := List.length_take_le _ _
  rw [List.length_cons, indexedStepBytes_length]
  omega

end

namespace KeptByCommands
variable {P : State → Prop} (kept : KeptByCommands P) {s : State}
include kept

theorem runRestart (p : List Byte) (h : P s) : Execution.Keeps P s (runRestart p s) :=
  .checked h fun _ => .done (kept.restarted (kept.loop.stopScan h)) (congrArg Link.replies s.stopScan_around.link :)
    (by decide)

theorem runChannelSet (p : List Byte) (h : P s) : Execution.Keeps P s (runChannelSet p s) := by
  refine .checked h fun _ => ?_
  split
  · exact .refused h _
  split
  · exact .refused h _
  next n _ _ c _ =>
    exact .done (kept.loop.channelChanged n (kept.written n c h))
      (congrArg Link.replies (State.channelChanged_around n _).link) (by decide)

theorem runChannelOff (p : List Byte) (h : P s) : Execution.Keeps P s (runChannelOff p s) := by
  refine .checked h fun _ => ?_
  split
  · exact .refused h _
  next n _ =>
    exact .done (kept.loop.channelChanged n (kept.disabled n h))
      (congrArg Link.replies (State.channelChanged_around n _).link) (by decide)

theorem runListClear (p : List Byte) (h : P s) : Execution.Keeps P s (runListClear p s) :=
  .checked h fun _ => .checked h fun _ => .done (kept.listed (by decide) h) rfl (by decide)

theorem runListAppend (p : List Byte) (h : P s) : Execution.Keeps P s (runListAppend p s) := by
  refine .checked h fun _ => .checked h fun _ => ?_
  split
  · exact .refused h _
  next steps _ =>
    refine .checked h fun _ => .checked h fun room => .done (kept.listed ?_ h) rfl (by decide)
    rw [List.length_append]
    exact Nat.not_lt.1 room

theorem runScanSet (p : List Byte) (h : P s) : Execution.Keeps P s (runScanSet p s) := by
  refine .checked h fun _ => ?_
  split
  · exact .refused h _
  · exact .checked h fun _ => .done (kept.jumped s h) rfl (by decide)

theorem runStart (p : List Byte) (h : P s) : Execution.Keeps P s (runStart p s) :=
  .checked h fun _ => .checked h fun _ => .checked h fun _ => .done (kept.jumped s h) rfl (by decide)

theorem runStop (p : List Byte) (h : P s) : Execution.Keeps P s (runStop p s) :=
  .checked h fun _ => .done (kept.loop.stopScan h) (congrArg Link.replies s.stopScan_around.link) (by decide)

theorem runPause (p : List Byte) (h : P s) : Execution.Keeps P s (runPause p s) := by
  refine .checked h fun _ => ?_
  split
  next t paused =>
    have moved : P t ∧ t.link.replies = s.link.replies := by
      unfold State.pauseScan at paused
      split at paused
      case h_1 => split at paused <;> cases paused <;> exact ⟨kept.jumped s h, rfl⟩
      case h_6 | h_7 => cases paused
      all_goals cases paused; exact ⟨kept.jumped s h, rfl⟩
    exact .done moved.1 moved.2 (by decide)
  · exact .refused h _

theorem resumePaused (h : P s) : P s.resumePaused := by
  unfold State.resumePaused
  split
  case h_4 => exact kept.loop.takeContinuation _ (kept.jumped s h)
  all_goals exact kept.jumped s h

theorem runResume (p : List Byte) (h : P s) : Execution.Keeps P s (runResume p s) := by
  refine .checked h fun _ => ?_
  split
  next t resumed =>
    have moved : P t ∧ t.link.replies = s.link.replies := by
      unfold State.resumeScan at resumed
      split at resumed <;> cases resumed
      · exact ⟨kept.jumped s h, rfl⟩
      · refine ⟨kept.resumePaused h, ?_⟩
        unfold State.resumePaused
        split
        case h_4 => exact congrArg Link.replies (State.takeContinuation_link _ _)
        all_goals rfl
      · exact ⟨h, rfl⟩
    exact .done moved.1 moved.2 (by decide)
  · exact .refused h _

theorem runTrigger (p : List Byte) (h : P s) : Execution.Keeps P s (runTrigger p s) :=
  .checked h fun _ => .done (kept.loop.triggerLatch h) (congrArg Link.replies s.triggerLatch_around.link) (by decide)

theorem runFetch (p : List Byte) (h : P s) : Execution.Keeps P s (runFetch p s) := by
  refine .checked h fun _ => .checked h fun legal => .checked h fun off => ?_
  refine .done (kept.loop.drain _ (kept.fetched _ (not_not.1 off) h))
    (congrArg Link.replies (State.drain_around _ _).link) ?_
  have few := fetched_length_le (field8 p 0) s
  have most : field8 p 0 ≤ 3 := Nat.not_lt.1 (not_or.1 legal).2
  rw [recordsBytes_length]
  omega

theorem runStream (p : List Byte) (h : P s) : Execution.Keeps P s (runStream p s) := by
  refine .checked h fun _ => .checked h fun legal => ?_
  split
  next on =>
    have window : 1 ≤ field8 p 1 ∧ field8 p 1 ≤ Config.maxWindow := by
      simpa only [streamValuesLegal, on, Bool.not_eq_false, Bool.or_eq_true, Bool.and_eq_true, decide_eq_true_eq,
        one_ne_zero, false_or, true_and] using legal
    exact .done (kept.streamOn window.1 window.2 h) rfl (by decide)
  · exact .done (kept.streamOff h) rfl (by decide)

theorem runAck (p : List Byte) (h : P s) : Execution.Keeps P s (runAck p s) := by
  refine .checked h fun _ => .checked h fun on => ?_
  split
  · exact .done (kept.loop.drain _ (kept.acknowledged _ _ (not_not.1 on) rfl h))
      (congrArg Link.replies (State.drain_around _ _).link) (by decide)
  · split
    · exact .done h rfl (by decide)
    · exact .refused h _

theorem runEvents (p : List Byte) (h : P s) : Execution.Keeps P s (runEvents p s) :=
  .checked h fun _ => .checked h fun _ =>
    .done (kept.eventsCleared _ h) rfl (by rw [eventTable_bytes_length]; decide)

theorem runSubscribe (p : List Byte) (h : P s) : Execution.Keeps P s (runSubscribe p s) :=
  .checked h fun _ => .checked h fun legal => .done (kept.subscribed (by simpa using legal) h) rfl (by simp)

theorem runTripControl (p : List Byte) (h : P s) : Execution.Keeps P s (runTripControl p s) := by
  refine .checked h fun _ => ?_
  split
  · exact .done (kept.lineMode _ h) rfl (by simp [State.tripBytes])
  · exact .done (kept.lineMode _ h) rfl (by simp [State.tripBytes])
  · exact .done (kept.unlatched h) rfl (by simp [State.tripBytes])
  · exact .refused h _

/-- A row of a request that keeps the property keeps it (R179, R181). -/
theorem row {t : State} {kind : Byte} {row : List Byte → Bool} {run : List Byte → State → Execution}
    (effect : whileLive s (State.serve kind row run) = .next t) (isKind : isRequestKind kind = true)
    (hrun : ∀ p u, P u → Execution.Keeps P u (run p u)) (h : P s) : P t := by
  rcases whileLive_cases s (State.serve kind row run) with ⟨-, held⟩ | ⟨-, live⟩
  · rwa [Host.Outcome.next.inj (effect.symm.trans held)]
  · rw [Host.Outcome.next.inj (effect.symm.trans live)]
    rcases serve_cases kind row run s with same | ⟨f, rest, inbound, room, rfl, token, -, -, executed⟩
    · rwa [same]
    · have run := hrun f.payload _ (kept.dequeued inbound h)
      rw [executed]
      exact kept.finished isKind token (by rw [run.replies]; exact room) run.payload.1 run.payload.2 run.kept

/-! ## The frames answered without being executed -/

/-- A frame that the processor takes and answers with a reply that may join the queue (R179). -/
theorem answer {f : Frame} {rest : List Frame} {r : Frame} (takes : s.link.takes = some (f, rest))
    (replied : ∀ u : State, u.link.replies.length < 4 → u.link.cache = s.link.cache → P u → P (u.addReply r))
    (h : P s) : P (s.answer rest r) := by
  unfold Link.takes at takes
  split at takes
  next g more inbound =>
    split at takes <;> cases takes
    next room => exact replied _ room rfl (kept.dequeued inbound h)
  · cases takes

theorem answerUnknownKind (h : P s) : P s.answerUnknownKind := by
  unfold State.answerUnknownKind
  split
  next takes =>
    split
    · exact h
    · exact kept.answer takes (fun _ room _ => kept.answered room (by simp [unknownKindReply])
        (by simp [unknownKindReply])) h
  · exact h

theorem answerBadToken (h : P s) : P s.answerBadToken := by
  unfold State.answerBadToken
  split
  next takes =>
    split
    · exact kept.answer takes (fun _ room _ => kept.answered room (by simp [badTokenReply])
        (by simp [badTokenReply])) h
    · exact h
  · exact h

theorem answerRepeat (h : P s) : P s.answerRepeat := by
  unfold State.answerRepeat
  split
  next f _ takes =>
    split
    next reply cached =>
      split
      · refine kept.answer takes (fun u room same => kept.repeated (f := f) room ?_) h
        rw [← cached, Link.cached, Link.cached, same]
      · exact h
    · exact h
  · exact h

/-! ## The transmitter and the receiver -/

theorem transmit (f : Frame) (h : P s) : P (s.transmit f) := kept.sent _ h

theorem sendOldestReply (h : P s) : P s.sendOldestReply := by
  unfold State.sendOldestReply
  split
  next waits => exact kept.transmit _ (kept.replyTaken waits h)
  all_goals exact h

theorem sendEventReport (h : P s) : P s.sendEventReport := by
  unfold State.sendEventReport
  split
  case h_1 => exact kept.transmit _ (kept.reported _ h)
  all_goals exact h

theorem sendResultReport (h : P s) : P s.sendResultReport := by
  unfold State.sendResultReport
  split
  case h_1 =>
    split
    next ready => exact kept.composed ready.1 ready.2.1 ready.2.2 h
    next => exact h
  all_goals exact h

theorem damagedCharacter (h : P s) : P (s.withLink s.link.damaged) := by
  unfold Link.damaged
  split
  · exact h
  all_goals exact kept.framingFailed h

theorem gapExpiry (h : P s) : P s.gapExpiry := by
  unfold State.gapExpiry
  split
  · exact kept.framingFailed (kept.timed _ h)
  · exact h

/-! ## The converter, the matrix and the rail -/

theorem endZero (h : P s) : P s.endZero := by
  unfold State.endZero
  split
  · exact kept.jumped (s.advance _) (kept.timed _ h)
  · exact h

theorem endIntegrate (input : MeanInput) (h : P s) : P (s.endIntegrate input) := by
  unfold State.endIntegrate
  split
  · exact kept.jumped (s.advance _) (kept.timed _ h)
  · exact h

theorem completeConversion (o : ConvOutcome) (n : Nat) (h : P s) : P ((s.advance n).completeConversion o) :=
  kept.loop.takeOutcome o (kept.jumped (s.advance n) (kept.timed n h))

theorem crossThreshold (h : P s) : P s.crossThreshold := by
  unfold State.crossThreshold
  split
  case h_1 => exact kept.completeConversion _ _ h
  all_goals exact h

theorem reachLimit (h : P s) : P s.reachLimit := by
  unfold State.reachLimit
  split
  case h_1 => exact kept.completeConversion _ _ h
  all_goals exact h

theorem settled (h : P s) : P s.settled := kept.loop.startConversion (kept.jumped s h)

theorem endBreak (h : P s) : P s.endBreak := by
  unfold State.endBreak
  split
  case h_1 t _ _ =>
    have settles : P ((s.advance (Config.breakTicks - s.matrix.timer)).withMatrix (.settleOn t)) :=
      kept.jumped (s.advance _) (kept.timed _ h)
    dsimp only
    split
    · exact kept.settled settles
    · exact settles
  all_goals exact h

theorem endSettle (h : P s) : P s.endSettle := by
  unfold State.endSettle
  split
  case h_1 => exact kept.settled (kept.timed _ h)
  all_goals exact h

theorem railInside (h : P s) : P s.railInside := by
  unfold State.railInside
  split
  case h_1 => exact kept.jumped s h
  all_goals exact h

theorem railTimeout (h : P s) : P s.railTimeout := by
  unfold State.railTimeout
  split
  case h_1 => exact kept.loop.railFault _ (kept.timed _ h)
  all_goals exact h

theorem railDrop (h : P s) : P s.railDrop := by
  unfold State.railDrop
  split
  case h_1 => exact kept.loop.railFault _ h
  all_goals exact h

theorem holdEnds (h : P s) : P s.holdEnds := by
  unfold State.holdEnds
  split
  case h_1 => exact kept.jumped (s.advance _) (kept.timed _ h)
  all_goals exact h

/-! ## The pace, the clock and the stream's timer -/

theorem startPass (h : P s) : P s.startPass := by
  unfold State.startPass
  split
  · exact kept.loop.takeContinuation _ (kept.jumped s h)
  · exact h

theorem latePass (h : P s) : P s.latePass := by
  unfold State.latePass
  split
  · exact h
  · exact kept.loop.raised h

theorem paceExpiry (h : P s) : P s.paceExpiry := by
  cases runs : s.seq.paceTimer with
  | none => rwa [State.paceExpiry_of_stopped runs]
  | some g =>
    have due : P (s.paceDue g) := kept.jumped (s.advance _) (kept.timed _ h)
    cases inside : s.withinPass with
    | true => rw [State.paceExpiry_within_pass runs inside]; exact kept.latePass due
    | false => rwa [State.paceExpiry_between_passes runs inside]

theorem clockWrap (h : P s) : P s.clockWrap := by
  unfold State.clockWrap
  split
  · exact h
  all_goals exact kept.timed _ h

theorem retransmit (h : P s) : P s.retransmit := by
  unfold State.retransmit
  split
  · exact h
  next t runs =>
    have later := kept.timed (Config.retransmitTicks - t) h
    have back := kept.timedOut (s := s.advance (Config.retransmitTicks - t)) (by simp [State.advance_stream, runs]) later
    dsimp only
    split
    next eighth =>
      have stalls : 8 ≤ (s.advance (Config.retransmitTicks - t)).stream.timeouts + 1 := eighth
      rw [if_pos stalls] at back
      exact kept.loop.raised back
    next more =>
      have goesOn : ¬ 8 ≤ (s.advance (Config.retransmitTicks - t)).stream.timeouts + 1 := more
      rw [if_neg goesOn] at back
      exact back

/-! ## Every command and every step -/

/-- Every command keeps the property. -/
theorem exec {c : Instr} {t : State} (effect : exec c s = .next t) (h : P s) : P t := by
  cases c with
  | identify => exact kept.row effect rfl (fun p _ => keeps_runIdentify p) h
  | status => exact kept.row effect rfl (fun p _ => keeps_runStatus p) h
  | restart => exact kept.row effect rfl (fun p _ => kept.runRestart p) h
  | channelSet => exact kept.row effect rfl (fun p _ => kept.runChannelSet p) h
  | channelGet => exact kept.row effect rfl (fun p _ => keeps_runChannelGet p) h
  | channelOff => exact kept.row effect rfl (fun p _ => kept.runChannelOff p) h
  | listClear => exact kept.row effect rfl (fun p _ => kept.runListClear p) h
  | listAppend => exact kept.row effect rfl (fun p _ => kept.runListAppend p) h
  | listRead => exact kept.row effect rfl (fun p _ => keeps_runListRead p) h
  | scanSet => exact kept.row effect rfl (fun p _ => kept.runScanSet p) h
  | start => exact kept.row effect rfl (fun p _ => kept.runStart p) h
  | stop => exact kept.row effect rfl (fun p _ => kept.runStop p) h
  | pause => exact kept.row effect rfl (fun p _ => kept.runPause p) h
  | resume => exact kept.row effect rfl (fun p _ => kept.runResume p) h
  | trigger => exact kept.row effect rfl (fun p _ => kept.runTrigger p) h
  | fetch => exact kept.row effect rfl (fun p _ => kept.runFetch p) h
  | streamOn | streamOff => exact kept.row effect rfl (fun p _ => kept.runStream p) h
  | ack => exact kept.row effect rfl (fun p _ => kept.runAck p) h
  | events => exact kept.row effect rfl (fun p _ => kept.runEvents p) h
  | subscribe => exact kept.row effect rfl (fun p _ => kept.runSubscribe p) h
  | modeFollow | modeLatched | clearLatch => exact kept.row effect rfl (fun p _ => kept.runTripControl p) h
  | unknownKind => exact keeps_of_effect effect kept.answerUnknownKind h
  | badToken => exact keeps_of_effect effect kept.answerBadToken h
  | repeatCacheMatch => exact keeps_of_effect effect kept.answerRepeat h
  | goodCharacter b => exact keeps_of_effect (f := fun u => u.withLink (u.link.character b)) effect (kept.received b) h
  | damagedCharacter => exact keeps_of_effect (f := fun u => u.withLink u.link.damaged) effect kept.damagedCharacter h
  | gapTimerExpiry => exact keeps_of_effect effect kept.gapExpiry h
  | sendReply => exact keeps_of_effect effect kept.sendOldestReply h
  | eventReport => exact keeps_of_effect effect kept.sendEventReport h
  | resultReport => exact keeps_of_effect effect kept.sendResultReport h
  | frameSent => exact keeps_of_effect (f := fun u => u.withLink { u.link with sending := none }) effect (kept.sent none) h
  | resetNLow r1 r0 => rw [← Host.Outcome.next.inj effect]; exact kept.reset s _
  | resetNHigh =>
    rw [← Host.Outcome.next.inj effect]
    split
    · exact kept.reset s _
    · exact h
  | powerUp r1 r0 => rw [← Host.Outcome.next.inj effect]; exact kept.reset s _
  | trigEdge => exact keeps_of_effect effect kept.loop.triggerLatch h
  | zeroEnd => exact keeps_of_effect effect kept.endZero h
  | integrateEnd input => exact keeps_of_effect effect (kept.endIntegrate input) h
  | deintegrateCrossing => exact keeps_of_effect effect kept.crossThreshold h
  | deintegrateLimit => exact keeps_of_effect effect kept.reachLimit h
  | breakEnd => exact keeps_of_effect effect kept.endBreak h
  | settleEnd => exact keeps_of_effect effect kept.endSettle h
  | railInsideWindow => exact keeps_of_effect effect kept.railInside h
  | startTimeout => exact keeps_of_effect effect kept.railTimeout h
  | drop => exact keeps_of_effect effect kept.railDrop h
  | holdExpiry => exact keeps_of_effect effect kept.holdEnds h
  | passStart => exact keeps_of_effect effect kept.startPass h
  | paceTimerExpiry => exact keeps_of_effect effect kept.paceExpiry h
  | scanClockWrap => exact keeps_of_effect effect kept.clockWrap h
  | retransmitExpiry => exact keeps_of_effect effect kept.retransmit h

/-- Every step keeps the property. -/
theorem step {t : State} (effect : step s = .next t) (h : P s) : P t := by
  unfold Machine.step at effect
  split at effect
  · rw [← Host.Outcome.next.inj effect, State.tick]
    split
    · exact h
    · exact kept.timed 1 h
  · exact kept.exec effect (kept.jumped s h)

end KeptByCommands

end Sys2Proof.Machine
end

section
namespace Sys2Proof.Machine

/-! PROOFS. The laws of the events, the TRIP line and the list, command by command through the moves above. -/

/-! ## The event table (R158) -/

/-- The law of one entry of the table (R158), by whether its kind is subscribed. -/
def EventEntry.Lawful (e : EventEntry) (subscribed : Bool) : Prop :=
  (e.pending = true ↔ 1 ≤ e.count) ∧ e.count ≤ 255 ∧ (e.pending = false → e.detail = 0)
    ∧ (e.due = true → e.pending = true ∧ subscribed = true)

theorem entryLaw_iff (t : EventTable) (k : EventKind) : EntryLaw t k ↔ (t.get k).Lawful (t.subscribed k) := Iff.rfl

theorem EventEntry.empty_lawful (b : Bool) : EventEntry.empty.Lawful b := by
  cases b <;> simp [EventEntry.Lawful, EventEntry.empty]

/-- The law of the event table over all its kinds (R158). -/
theorem eventLaw_iff (s : State) :
    EventLaw s ↔ (∀ k, EntryLaw s.events k) ∧ eventSetLegal s.events.subscription = true := by
  simp [EventLaw]

/-- A table with one entry replaced by a lawful one is lawful. -/
theorem EventTable.entryLaw_set {t : EventTable} (h : ∀ k, EntryLaw t k) {k : EventKind} {e : EventEntry}
    (he : e.Lawful (t.subscribed k)) (j : EventKind) : EntryLaw (t.set k e) j := by
  have same : (t.set k e).subscribed j = t.subscribed j := by simp [EventTable.subscribed]
  rw [entryLaw_iff, same]
  by_cases hj : j = k
  · subst hj; rwa [EventTable.get_set_self]
  · rw [EventTable.get_set_of_ne t hj]; exact h j

/-- A raise keeps the entries lawful: a count below 255 goes up, and a new period starts at 1 (R160). -/
theorem EventTable.entryLaw_raise {t : EventTable} (h : ∀ k, EntryLaw t k) (k : EventKind) (d : Word16)
    (j : EventKind) : EntryLaw (t.raise k d) j := by
  obtain ⟨pending, count, detail, due⟩ := h k
  rcases t.raise_cases k d with ⟨-, -, e⟩ | ⟨isPending, below, e⟩ | ⟨-, e⟩ <;> rw [e]
  · exact h j
  · refine t.entryLaw_set h ?_ j
    exact ⟨⟨fun _ => Nat.le_add_left 1 _, fun _ => isPending⟩, below, detail, due⟩
  · exact t.entryLaw_set h ⟨by simp, by simp, by simp, fun on => ⟨rfl, on⟩⟩ j

theorem eventLaw_raise {s : State} (k : EventKind) (d : Word16) (h : EventLaw s) : EventLaw (s.raise k d) := by
  rw [eventLaw_iff] at h ⊢
  rw [State.raise_eq, State.withEvents_events, EventTable.raise_subscription]
  exact ⟨EventTable.entryLaw_raise h.1 k d, h.2⟩

theorem eventLaw_clearSet {s : State} (m : Word16) (h : EventLaw s) :
    EventLaw (s.withEvents (s.events.clearSet m)) := by
  rw [eventLaw_iff] at h ⊢
  refine ⟨fun k => ?_, h.2⟩
  rw [entryLaw_iff, State.withEvents_events, EventTable.clearSet, EventTable.get_mapEntries]
  split
  · exact EventEntry.empty_lawful _
  · exact h.1 k

/-- After SUBSCRIBE an entry is report-due only while it is pending and its kind is in the new set (R161). -/
theorem eventLaw_subscribe {s : State} {m : Word16} (legal : eventSetLegal m = true) (h : EventLaw s) :
    EventLaw (s.withEvents (s.events.subscribe m)) := by
  rw [eventLaw_iff] at h ⊢
  refine ⟨fun k => ?_, legal⟩
  obtain ⟨pending, count, detail, due⟩ := h.1 k
  have entry : (s.events.subscribe m).get k = { s.events.get k with due := if inEventSet m k then
      (if (s.events.get k).pending && !inEventSet s.events.subscription k then true else (s.events.get k).due)
      else false } := by cases k <;> rfl
  rw [entryLaw_iff, State.withEvents_events, entry]
  refine ⟨pending, count, detail, fun isDue => ?_⟩
  have inSet : inEventSet m k = true := by
    by_contra out
    rw [if_neg out] at isDue
    cases isDue
  refine ⟨?_, inSet⟩
  by_cases isPending : (s.events.get k).pending = true
  · exact isPending
  · dsimp only at isDue
    simp only [inSet, if_true, isPending, Bool.false_and, Bool.false_eq_true, if_false] at isDue
    exact (due isDue).1

theorem eventLaw_reported {s : State} (k : EventKind) (h : EventLaw s) :
    EventLaw (s.withEvents (s.events.set k { s.events.get k with due := false })) := by
  rw [eventLaw_iff] at h ⊢
  obtain ⟨pending, count, detail, -⟩ := h.1 k
  refine ⟨EventTable.entryLaw_set h.1 ⟨pending, count, detail, by simp⟩, ?_⟩
  rw [State.withEvents_events, EventTable.set_subscription]
  exact h.2

theorem eventLaw_cleared {s : State} (m : Word16) (legal : eventSetLegal m = true) :
    EventLaw (s.withEvents (.cleared m)) := by
  rw [eventLaw_iff]
  refine ⟨fun k => ?_, legal⟩
  rw [entryLaw_iff, State.withEvents_events, EventTable.get_cleared]
  exact EventEntry.empty_lawful _

theorem eventLaw_evaluate {s : State} (r : Record) (h : EventLaw s) : EventLaw (s.evaluate r).2 := by
  rcases (s.evaluate_cases r).2 with e | ⟨-, e⟩ | ⟨-, e⟩ <;> rw [e]
  · exact h
  · exact eventLaw_raise _ _ h
  · exact eventLaw_raise _ _ h

theorem eventLaw_keptByCommands : KeptByCommands EventLaw where
  loop :=
    { moved := fun _ _ _ _ _ _ _ h => h
      raised := eventLaw_raise _ _
      evaluated := eventLaw_evaluate
      remembered := id
      relisted := fun _ h => h
      appended := fun _ _ h => h
      replaced := fun _ h => h }
  jumped _ _ _ _ _ _ _ _ h := h
  timed _ h := h
  reset s p := eventLaw_cleared (s := s.resetWith p) 0 (by decide)
  restarted {s} h := eventLaw_cleared (s := s.clearWork) _ h.2
  written _ _ h := h
  disabled _ h := h
  listed _ h := h
  lineMode _ h := h
  unlatched h := h
  eventsCleared := eventLaw_clearSet
  subscribed := eventLaw_subscribe
  reported := eventLaw_reported
  fetched _ _ h := h
  streamOn _ _ h := h
  streamOff h := h
  acknowledged _ _ _ _ h := h
  composed _ _ _ h := h
  timedOut _ h := h
  dequeued _ h := h
  finished _ _ _ _ _ h := h
  answered _ _ _ h := h
  repeated _ _ h := h
  replyTaken _ h := h
  sent _ h := h
  received _ h := h
  framingFailed h := h

/-! ## The TRIP line (R149) -/

/-- A line just brought up to date is lawful (R149). -/
theorem lineLaw_updateLine (s : State) : LineLaw s.updateLine := rfl

/-- The line level looks at the trip states alone (R149). -/
theorem lineLevel_congr {t u : Vector Channel 24} (h : ∀ i (hi : i < 24), u[i].trip = t[i].trip) (m : LineMode)
    (latch : Bool) : lineLevel m latch u = lineLevel m latch t := by
  have trips : u.toList.map Channel.trip = t.toList.map Channel.trip :=
    List.ext_getElem (by simp) fun i hi hj => by simpa using h i (by simpa using hi)
  have tripped : anyTripped u = anyTripped t := by
    have through (v : Vector Channel 24) :
        anyTripped v = (v.toList.map Channel.trip).any fun x => decide (x = .tripped) := by
      rw [List.any_map]; rfl
    rw [through, through, trips]
  cases m with
  | follow => exact tripped
  | latched => rfl

/-- A record rewritten with its trip state kept leaves the line (R149). -/
theorem lineLevel_set (t : Vector Channel 24) (n : Fin 24) {c : Channel} (h : c.trip = t[n].trip) (m : LineMode)
    (latch : Bool) : lineLevel m latch (t.set n c) = lineLevel m latch t := by
  refine lineLevel_congr (fun i hi => ?_) m latch
  by_cases same : n.val = i
  · subst same; simpa using h
  · rw [Vector.getElem_set_ne _ _ same]

theorem lineLaw_setChannel {s : State} {n : Fin 24} {c : Channel} (same : c.trip = s.table[n].trip) (h : LineLaw s) :
    LineLaw (s.setChannel n c) :=
  Eq.trans h (lineLevel_set s.table n same _ _).symm

theorem lineLaw_evaluate {s : State} (r : Record) (h : LineLaw s) : LineLaw (s.evaluate r).2 := by
  rcases (s.evaluate_cases r).2 with e | ⟨-, e⟩ | ⟨-, e⟩ <;> rw [e]
  · exact h
  · exact lineLaw_updateLine _
  · exact lineLaw_updateLine _

/-- RESTART leaves every channel CLEAR, the latch clear and the line released (R13, R188). -/
theorem lineLaw_clearWork (s : State) : LineLaw s.clearWork := by
  have clear : anyTripped (mapTable Channel.restarted s.table) = false := by
    rw [mapTable_eq_map, anyTripped, List.any_eq_false]
    intro c hc
    obtain ⟨d, -, rfl⟩ := List.mem_map.1 (Vector.toList_map ▸ hc)
    simp [Channel.restarted]
  show false = lineLevel s.limit.mode false (mapTable Channel.restarted s.table)
  cases s.limit.mode with
  | follow => exact clear.symm
  | latched => rfl

theorem lineLaw_keptByCommands : KeptByCommands LineLaw where
  loop :=
    { moved := fun _ _ _ _ _ _ _ h => h
      raised := id
      evaluated := lineLaw_evaluate
      remembered := lineLaw_setChannel rfl
      relisted := fun _ h => h
      appended := fun _ _ h => h
      replaced := fun _ h => h }
  jumped _ _ _ _ _ _ _ _ h := h
  timed _ h := h
  reset _ _ := lineLaw_reset
  restarted _ := lineLaw_clearWork _
  written _ _ _ := lineLaw_updateLine _
  disabled n h := lineLaw_setChannel (n := n) rfl h
  listed _ h := h
  lineMode _ _ := lineLaw_updateLine _
  unlatched _ := lineLaw_updateLine _
  eventsCleared _ h := h
  subscribed _ h := h
  reported _ h := h
  fetched _ _ h := h
  streamOn _ _ h := h
  streamOff h := h
  acknowledged _ _ _ _ h := h
  composed _ _ _ h := h
  timedOut _ h := h
  dequeued _ h := h
  finished _ _ _ _ _ h := h
  answered _ _ _ h := h
  repeated _ _ h := h
  replyTaken _ h := h
  sent _ h := h
  received _ h := h
  framingFailed h := h

/-! ## The scan list (R73) -/

theorem listLaw_keptByCommands : KeptByCommands ListLaw where
  loop :=
    { moved := fun _ _ _ _ _ _ _ h => h
      raised := id
      evaluated := fun r h => (congrArg List.length (State.evaluate_around r _).list).trans_le h
      remembered := id
      relisted := fun _ h => h
      appended := fun _ _ h => h
      replaced := fun _ h => h }
  jumped _ _ _ _ _ _ _ _ h := h
  timed _ h := h
  reset _ _ := Nat.zero_le _
  restarted h := h
  written _ _ h := h
  disabled _ h := h
  listed short _ := short
  lineMode _ h := h
  unlatched h := h
  eventsCleared _ h := h
  subscribed _ h := h
  reported _ h := h
  fetched _ _ h := h
  streamOn _ _ h := h
  streamOff h := h
  acknowledged _ _ _ _ h := h
  composed _ _ _ h := h
  timedOut _ h := h
  dequeued _ h := h
  finished _ _ _ _ _ h := h
  answered _ _ _ h := h
  repeated _ _ h := h
  replyTaken _ h := h
  sent _ h := h
  received _ h := h
  framingFailed h := h

end Sys2Proof.Machine
end

section
namespace Sys2Proof.Machine

/-! PROOFS. The law of the stream (R126, R133), through the list cut where its marks end. -/

/-! ## Where the marks end -/

/-- The list is a marked part of this length, oldest first, and a fresh part behind it (R111, R126). -/
def Marks (l : List Queued) (m : Nat) : Prop :=
  ∃ a b, l = a ++ b ∧ a.length = m ∧ (∀ e ∈ a, e.sent = true) ∧ ∀ e ∈ b, e.sent = false

theorem marks_iff (q : ResultQueue) (m : Nat) : Marks q.list m ↔ q.marksFirst = true ∧ q.marked = m := by
  constructor
  · rintro ⟨a, b, hl, rfl, sent, fresh⟩
    refine ⟨?_, ?_⟩
    · rw [ResultQueue.marksFirst, hl, List.dropWhile_append_of_pos sent, List.all_eq_true]
      intro e he
      rw [fresh e ((List.dropWhile_sublist _).subset he)]
      rfl
    · rw [ResultQueue.marked, hl, List.filter_append, List.filter_eq_self.2 sent,
        List.filter_eq_nil_iff.2 fun e he => by simp [fresh e he], List.append_nil]
  · rintro ⟨first, rfl⟩
    have fresh : ∀ e ∈ q.list.dropWhile (·.sent), e.sent = false := by
      simpa [ResultQueue.marksFirst] using first
    have sent : ∀ e ∈ q.list.takeWhile (·.sent), e.sent = true := fun e he => List.mem_takeWhile_imp he
    refine ⟨_, _, (List.takeWhile_append_dropWhile (p := (·.sent))).symm, ?_, sent, fresh⟩
    have cut := congrArg (List.filter (·.sent)) (List.takeWhile_append_dropWhile (p := (·.sent)) (l := q.list))
    rw [List.filter_append, List.filter_eq_self.2 sent,
      List.filter_eq_nil_iff.2 fun e he => by simp [fresh e he], List.append_nil] at cut
    rw [cut]
    rfl

/-- A fresh record behind the list leaves the marks (R112). -/
theorem Marks.append {l : List Queued} {m : Nat} (h : Marks l m) (r : Record) :
    Marks (l ++ [{ record := r, sent := false }]) m := by
  obtain ⟨a, b, rfl, rfl, sent, fresh⟩ := h
  refine ⟨a, b ++ [{ record := r, sent := false }], List.append_assoc a b _, rfl, sent, fun e he => ?_⟩
  rcases List.mem_append.1 he with he | he
  · exact fresh e he
  · rw [List.mem_singleton.1 he]

/-- Dropping the oldest fresh record leaves the marks (R115). -/
theorem Marks.eraseFresh {l : List Queued} {m : Nat} (h : Marks l m) : Marks (l.eraseP fun e => !e.sent) m := by
  obtain ⟨a, b, rfl, rfl, sent, fresh⟩ := h
  rw [List.eraseP_append_right _ fun e he => by simp [sent e he]]
  exact ⟨a, _, rfl, rfl, sent, fun e he => fresh e (List.mem_of_mem_eraseP he)⟩

/-- Dropping records from the oldest end drops their marks. -/
theorem Marks.drop {l : List Queued} {m : Nat} (h : Marks l m) (j : Nat) : Marks (l.drop j) (m - j) := by
  obtain ⟨a, b, rfl, rfl, sent, fresh⟩ := h
  exact ⟨a.drop j, b.drop (j - a.length), List.drop_append, List.length_drop,
    fun e he => sent e (List.mem_of_mem_drop he), fun e he => fresh e (List.mem_of_mem_drop he)⟩

/-- The records before the end of the marks are marked. -/
theorem Marks.sent_of_mem_take {l : List Queued} {m k : Nat} (h : Marks l m) (hk : k ≤ m) :
    ∀ e ∈ l.take k, e.sent = true := by
  obtain ⟨a, b, rfl, rfl, sent, -⟩ := h
  rw [List.take_append_of_le_length hk]
  exact fun e he => sent e (List.mem_of_mem_take he)

/-- A marked part before the list joins the marks. -/
theorem Marks.prepend {l : List Queued} {m : Nat} (h : Marks l m) {p : List Queued} (hp : ∀ e ∈ p, e.sent = true) :
    Marks (p ++ l) (p.length + m) := by
  obtain ⟨a, b, rfl, rfl, sent, fresh⟩ := h
  exact ⟨p ++ a, b, (List.append_assoc p a b).symm, List.length_append,
    fun e he => (List.mem_append.1 he).elim (hp e) (sent e), fresh⟩

/-- A list without marks. -/
theorem marks_zero {l : List Queued} (h : ∀ e ∈ l, e.sent = false) : Marks l 0 := ⟨[], l, rfl, rfl, by simp, h⟩

theorem Marks.filter {l : List Queued} {m : Nat} (h : Marks l m) (p : Queued → Bool) :
    Marks (l.filter p) (((l.take m).filter p).length) := by
  obtain ⟨a, b, rfl, rfl, sent, fresh⟩ := h
  rw [List.take_left]
  exact ⟨a.filter p, b.filter p, List.filter_append a b, rfl, fun e he => sent e (List.mem_filter.1 he).1,
    fun e he => fresh e (List.mem_filter.1 he).1⟩

theorem Marks.le_length {l : List Queued} {m : Nat} (h : Marks l m) : m ≤ l.length := by
  obtain ⟨a, b, rfl, rfl, -, -⟩ := h
  simp

/-! ## The law -/

/-- The law of R126 with the number of marked records named. -/
structure StreamStands (s : State) (m : Nat) : Prop where
  marks : Marks s.queue.list m
  window : 1 ≤ s.stream.window ∧ s.stream.window ≤ 8
  inFlight : s.stream.inFlight ≤ m
  fits : m ≤ s.stream.window
  notOn : s.stream.state ≠ .on → s.stream.inFlight = 0
  off : s.stream.state = .off → m = 0
  timer : s.stream.timer.isSome = true ↔ 0 < s.stream.inFlight
  timeouts : s.stream.timeouts ≤ 8 ∧ (s.stream.state = .on → s.stream.timeouts ≤ 7)

theorem streamLaw_iff (s : State) : StreamLaw s ↔ ∃ m, StreamStands s m := by
  constructor
  · rintro ⟨pos, le, first, inFlight, fits, notOn, off, timer, timeouts⟩
    exact ⟨_, (marks_iff _ _).2 ⟨first, rfl⟩, ⟨pos, le⟩, inFlight, fits, notOn, off, timer, timeouts⟩
  · rintro ⟨m, marks, ⟨pos, le⟩, inFlight, fits, notOn, off, timer, timeouts⟩
    obtain ⟨first, rfl⟩ := (marks_iff _ _).1 marks
    exact ⟨pos, le, first, inFlight, fits, notOn, off, timer, timeouts⟩

/-- A queue that keeps the marks keeps the law. -/
theorem streamLaw_withQueue {s : State} {q : ResultQueue} (same : ∀ m, Marks s.queue.list m → Marks q.list m)
    (h : StreamLaw s) : StreamLaw (s.withQueue q) := by
  obtain ⟨m, stands⟩ := (streamLaw_iff s).1 h
  exact (streamLaw_iff _).2 ⟨m, { stands with marks := same m stands.marks }⟩

/-- A stream that is off or starts anew, with nothing marked and nothing in flight (R128, R129). -/
theorem streamLaw_fresh {s : State} (fresh : ∀ e ∈ s.queue.list, e.sent = false)
    (window : 1 ≤ s.stream.window ∧ s.stream.window ≤ 8) (inFlight : s.stream.inFlight = 0)
    (timer : s.stream.timer = none) (timeouts : s.stream.timeouts = 0) : StreamLaw s :=
  (streamLaw_iff s).2 ⟨0, marks_zero fresh, window, by omega, by omega, fun _ => inFlight, fun _ => rfl,
    by simp [timer, inFlight], by omega, by omega⟩

theorem streamLaw_timed {s : State} (n : Nat) (h : StreamLaw s) : StreamLaw (s.advance n) := by
  obtain ⟨m, stands⟩ := (streamLaw_iff s).1 h
  refine (streamLaw_iff _).2 ⟨m, { stands with timer := ?_ }⟩
  rw [State.advance_stream, Stream.advance_timer, Option.isSome_map]
  exact stands.timer

/-- A FETCH finds no mark, for the stream is OFF (R120, R126). -/
theorem streamLaw_fetched {s : State} (n : Nat) (off : s.stream.state = .off) (h : StreamLaw s) :
    StreamLaw (s.withQueue { s.queue with list := s.queue.list.drop n }) := by
  obtain ⟨m, stands⟩ := (streamLaw_iff s).1 h
  obtain rfl := stands.off off
  have marks := stands.marks.drop n
  rw [Nat.zero_sub] at marks
  exact (streamLaw_iff _).2 ⟨0, { stands with marks := marks }⟩

/-- What is left of the first records of a list when some of them are taken out. -/
theorem sub_length_filter_take {l : List Queued} {k : Nat} (h : k ≤ l.length) (p : Queued → Bool) :
    k - ((l.take k).filter p).length = ((l.take k).filter fun e => !p e).length := by
  have parts := List.length_eq_length_filter_add (l := l.take k) p
  rw [List.length_take, Nat.min_eq_left h] at parts
  omega

/-- An acknowledgement removes records of the marked part alone, and the in-flight count follows (R137). -/
theorem streamLaw_acknowledged {s : State} (a : Word16) (k : Nat) (on : s.stream.state = .on)
    (hk : k = s.stream.inFlight - ((s.queue.list.take s.stream.inFlight).filter (s.queue.ackRemoves a)).length)
    (h : StreamLaw s) :
    StreamLaw ((s.withQueue { s.queue with list := s.queue.list.filter fun e => !s.queue.ackRemoves a e }).withStream
      { s.stream with inFlight := k, timeouts := 0, timer := if 0 < k then some 0 else none }) := by
  obtain ⟨m, stands⟩ := (streamLaw_iff s).1 h
  have inList := stands.inFlight.trans stands.marks.le_length
  have flying := hk.trans (sub_length_filter_take inList (s.queue.ackRemoves a))
  have among : ((s.queue.list.take s.stream.inFlight).filter fun e => !s.queue.ackRemoves a e).length
      ≤ ((s.queue.list.take m).filter fun e => !s.queue.ackRemoves a e).length :=
    ((List.take_sublist_take_left stands.inFlight).filter _).length_le
  have fewer : ((s.queue.list.take m).filter fun e => !s.queue.ackRemoves a e).length ≤ m :=
    (List.length_filter_le _ _).trans (List.length_take_le _ _)
  refine (streamLaw_iff _).2 ⟨_, stands.marks.filter _, stands.window, ?_, fewer.trans stands.fits,
    fun notOn => absurd on notOn, fun off => absurd (on.symm.trans off) (by decide), ?_, Nat.zero_le _,
    fun _ => Nat.zero_le _⟩
  · exact flying.trans_le among
  · show (if 0 < k then some 0 else none : Option Nat).isSome = true ↔ 0 < k
    split
    next runs => exact ⟨fun _ => runs, fun _ => rfl⟩
    next stops => exact ⟨fun on => absurd on (by decide), fun runs => absurd runs stops⟩

/-- A RESULT report marks the records it takes, and they join the ones in flight (R131). -/
theorem streamLaw_composed {s : State} (on : s.stream.state = .on) (room : s.stream.inFlight < s.stream.window)
    (unsent : s.stream.inFlight < s.queue.list.length) (h : StreamLaw s) : StreamLaw s.composeResults := by
  obtain ⟨m, stands⟩ := (streamLaw_iff s).1 h
  have size : 1 ≤ s.reportSize ∧ s.stream.inFlight + s.reportSize ≤ s.stream.window
      ∧ s.stream.inFlight + s.reportSize ≤ s.queue.list.length := by
    simp only [State.reportSize, Config.recordsPerFrame]
    omega
  obtain ⟨taking, within, present⟩ := size
  have flying : (s.queue.list.take s.stream.inFlight).length = s.stream.inFlight := by
    rw [List.length_take]; omega
  have taken : (((s.queue.list.drop s.stream.inFlight).take s.reportSize).map
      fun e => { e with sent := true }).length = s.reportSize := by
    rw [List.length_map, List.length_take, List.length_drop]; omega
  have marked := ((stands.marks.drop (s.stream.inFlight + s.reportSize)).prepend
    (p := ((s.queue.list.drop s.stream.inFlight).take s.reportSize).map fun e => { e with sent := true })
    (List.forall_mem_map.2 fun _ _ => rfl)).prepend (stands.marks.sent_of_mem_take stands.inFlight)
  rw [taken, flying, ← List.append_assoc] at marked
  have fits := stands.fits
  refine (streamLaw_iff _).2 ⟨_, marked, stands.window, ?_, ?_, fun notOn => absurd on notOn,
    fun off => absurd (on.symm.trans off) (by decide), ?_, stands.timeouts⟩
  · show s.stream.inFlight + s.reportSize ≤ _
    omega
  · show _ ≤ s.stream.window
    omega
  · show (if s.stream.inFlight = 0 then some 0 else s.stream.timer).isSome = true
      ↔ 0 < s.stream.inFlight + s.reportSize
    have timer := stands.timer
    split
    next => simp; omega
    next => rw [timer]; omega

/-- A retransmit timeout returns the records in flight, keeping their marks, and the eighth stalls the stream (R134). -/
theorem streamLaw_timedOut {s : State} (runs : s.stream.timer.isSome = true) (h : StreamLaw s) :
    StreamLaw (s.withStream { s.stream with
      inFlight := 0, timer := none, timeouts := s.stream.timeouts + 1
      state := if 8 ≤ s.stream.timeouts + 1 then .stalled else s.stream.state }) := by
  obtain ⟨m, stands⟩ := (streamLaw_iff s).1 h
  have flying : 0 < s.stream.inFlight := stands.timer.1 runs
  have on : s.stream.state = .on := by
    by_contra notOn
    have none := stands.notOn notOn
    omega
  have few := stands.timeouts.2 on
  refine (streamLaw_iff _).2 ⟨m, stands.marks, stands.window, Nat.zero_le _, stands.fits, fun _ => rfl, fun off => ?_,
    by simp, Nat.succ_le_succ few, fun stillOn => ?_⟩
  · dsimp only [State.withStream_stream] at off
    split at off
    · cases off
    · exact stands.off off
  · dsimp only [State.withStream_stream] at stillOn ⊢
    split at stillOn
    · cases stillOn
    · omega

theorem streamLaw_keptByCommands : KeptByCommands StreamLaw where
  loop :=
    { moved := fun _ _ _ _ _ _ _ h => h
      raised := id
      evaluated := fun r h => by
        rcases (State.evaluate_cases r _).2 with e | ⟨-, e⟩ | ⟨-, e⟩ <;> rw [e] <;> exact h
      remembered := id
      relisted := fun same => streamLaw_withQueue fun _ marks => by rwa [same]
      appended := fun r same => streamLaw_withQueue fun _ marks => by rw [same]; exact marks.append r
      replaced := fun r => streamLaw_withQueue fun _ marks => marks.eraseFresh.append r }
  jumped _ _ _ _ _ _ _ _ h := h
  timed := streamLaw_timed
  reset _ _ := streamLaw_reset
  restarted h := streamLaw_fresh (by simp [State.clearWork, ResultQueue.reset]) ⟨h.1, h.2.1⟩ rfl rfl rfl
  written _ _ h := h
  disabled _ h := h
  listed _ h := h
  lineMode _ h := h
  unlatched h := h
  eventsCleared _ h := h
  subscribed _ h := h
  reported _ h := h
  fetched := streamLaw_fetched
  streamOn pos le _ := streamLaw_fresh (by simp [State.streamOn, State.makeAllFresh]) ⟨pos, le⟩ rfl rfl rfl
  streamOff h := streamLaw_fresh (by simp [State.streamOff, State.makeAllFresh]) ⟨h.1, h.2.1⟩ rfl rfl rfl
  acknowledged := streamLaw_acknowledged
  composed := streamLaw_composed
  timedOut := streamLaw_timedOut
  dequeued _ h := h
  finished _ _ _ _ _ h := h
  answered _ _ _ h := h
  repeated _ _ h := h
  replyTaken _ h := h
  sent _ h := h
  received _ h := h
  framingFailed h := h

end Sys2Proof.Machine
end

section
namespace Sys2Proof.Machine

/-! PROOFS. The laws of the link, the repeat cache and the replies (R172, R174, R178, R182). -/

/-! ## The receiver and the counters -/

theorem bump_le (n : Nat) : bump n ≤ 65535 := Nat.min_le_right _ _

/-- The law of the link, read off the link alone (R174, R178). -/
theorem linkLaw_of_link {s : State} {l : Link} (inbound : l.inbound.length ≤ 4) (replies : l.replies.length ≤ 4)
    (wf : l.receiver.wf = true) (gap : l.gapTimer.isSome = true ↔ l.receiver ≠ .hunt)
    (counters : l.framingCount ≤ 65535 ∧ l.checkCount ≤ 65535 ∧ l.overflowCount ≤ 65535) :
    LinkLaw (s.withLink l) := ⟨inbound, replies, wf, gap, counters⟩

theorem linkLaw_framingFailure {s : State} (h : LinkLaw s) : LinkLaw (s.withLink s.link.framingFailure) := by
  obtain ⟨inbound, replies, -, -, -, check, overflow⟩ := h
  exact linkLaw_of_link inbound replies rfl (by simp [Link.framingFailure]) ⟨bump_le _, check, overflow⟩

/-- A checked frame is counted, dropped or taken in, and the receiver hunts again (R175). -/
theorem linkLaw_checkFrame {s : State} (len : Nat) (got crcBytes : List Byte) (h : LinkLaw s) :
    LinkLaw (s.withLink (s.link.checkFrame len got crcBytes)) := by
  obtain ⟨inbound, replies, -, -, framing, check, overflow⟩ := h
  unfold Link.checkFrame
  dsimp only
  split
  · exact linkLaw_of_link inbound replies rfl (by simp) ⟨framing, bump_le _, overflow⟩
  split
  next room =>
    refine linkLaw_of_link ?_ replies rfl (by simp) ⟨framing, check, overflow⟩
    rw [List.length_append]
    exact room
  next => exact linkLaw_of_link inbound replies rfl (by simp) ⟨framing, check, bump_le _⟩

/-- A good character takes the receiver from a lawful assembly to a lawful one (R175). -/
theorem linkLaw_character {s : State} (b : Byte) (h : LinkLaw s) : LinkLaw (s.withLink (s.link.character b)) := by
  obtain ⟨inbound, replies, wf, gap, counters⟩ := h
  have running {r : Receiver} (hr : r.wf = true) (busy : r ≠ .hunt) :
      LinkLaw (s.withLink { s.link with receiver := r, gapTimer := some 0 }) :=
    linkLaw_of_link inbound replies hr ⟨fun _ => busy, fun _ => rfl⟩ counters
  unfold Link.character
  split
  · split
    · exact running rfl (by simp)
    · exact ⟨inbound, replies, wf, gap, counters⟩
  · split
    next legal => exact running (by simp [Receiver.wf, legal]; omega) (by simp)
    next => exact linkLaw_framingFailure ⟨inbound, replies, wf, gap, counters⟩
  next len got receiving =>
    simp only [receiving, Receiver.wf, Bool.and_eq_true, decide_eq_true_eq] at wf
    split
    next lacking => exact running (by simp [Receiver.wf, wf, lacking]) (by simp)
    next complete => exact running (by simp [Receiver.wf, wf]; omega) (by simp)
  next len got receiving =>
    simp only [receiving, Receiver.wf, Bool.and_eq_true, decide_eq_true_eq] at wf
    exact running (by simp [Receiver.wf, wf]) (by simp)
  next => exact linkLaw_checkFrame _ _ _ ⟨inbound, replies, wf, gap, counters⟩

/-! ## The three laws, command by command -/

/-- Two states of one link meet the law of the link together. -/
theorem linkLaw_congr {s t : State} (same : t.link = s.link) (h : LinkLaw s) : LinkLaw t := by
  unfold LinkLaw
  rwa [same]

/-- Time leaves the gap timer running or stopped (R177). -/
theorem linkLaw_timed {s : State} (n : Nat) (h : LinkLaw s) : LinkLaw (s.advance n) := by
  obtain ⟨inbound, replies, wf, gap, counters⟩ := h
  refine ⟨inbound, replies, wf, ?_, counters⟩
  rw [State.advance_link, Link.advance_gapTimer, Option.isSome_map]
  exact gap

/-- A reply queue with room may take a reply (R178, R179). -/
theorem linkLaw_addReply {s : State} {r : Frame} (room : s.link.replies.length < 4) (h : LinkLaw s) :
    LinkLaw (s.addReply r) := by
  obtain ⟨inbound, -, wf, gap, counters⟩ := h
  refine linkLaw_of_link inbound ?_ wf gap counters
  rw [List.length_append]
  exact room

theorem linkLaw_keptByCommands : KeptByCommands LinkLaw where
  loop :=
    { moved := fun _ _ _ _ _ _ _ h => h
      raised := id
      evaluated := fun r => linkLaw_congr (State.evaluate_around r _).link
      remembered := id
      relisted := fun _ h => h
      appended := fun _ _ h => h
      replaced := fun _ h => h }
  jumped _ _ _ _ _ _ _ _ h := h
  timed := linkLaw_timed
  reset _ _ := linkLaw_reset
  restarted h := by
    obtain ⟨inbound, replies, wf, gap, -⟩ := h
    exact ⟨inbound, replies, wf, gap, Nat.zero_le _, Nat.zero_le _, Nat.zero_le _⟩
  written _ _ h := h
  disabled _ h := h
  listed _ h := h
  lineMode _ h := h
  unlatched h := h
  eventsCleared _ h := h
  subscribed _ h := h
  reported _ h := h
  fetched _ _ h := h
  streamOn _ _ h := h
  streamOff h := h
  acknowledged _ _ _ _ h := h
  composed _ _ _ h := h
  timedOut _ h := h
  dequeued waits h := by
    obtain ⟨inbound, replies, wf, gap, counters⟩ := h
    rw [waits] at inbound
    exact linkLaw_of_link (Nat.le_of_succ_le inbound) replies wf gap counters
  finished _ _ room _ _ := linkLaw_addReply room
  answered room _ _ := linkLaw_addReply room
  repeated room _ := linkLaw_addReply room
  replyTaken waits h := by
    obtain ⟨inbound, replies, wf, gap, counters⟩ := h
    rw [waits] at replies
    exact linkLaw_of_link inbound (Nat.le_of_succ_le replies) wf gap counters
  sent _ h := h
  received := linkLaw_character
  framingFailed := linkLaw_framingFailure

/-- A character and a framing failure leave the replies and the cache (R175 to R177). -/
theorem Link.character_replies_cache (b : Byte) (l : Link) :
    (l.character b).replies = l.replies ∧ (l.character b).cache = l.cache := by
  have checked (len : Nat) (got crcBytes : List Byte) : (l.checkFrame len got crcBytes).replies = l.replies
      ∧ (l.checkFrame len got crcBytes).cache = l.cache := by
    unfold Link.checkFrame
    dsimp only
    split
    · exact ⟨rfl, rfl⟩
    · split <;> exact ⟨rfl, rfl⟩
  unfold Link.character
  split
  case h_5 => exact checked _ _ _
  case h_4 => exact ⟨rfl, rfl⟩
  all_goals split <;> exact ⟨rfl, rfl⟩

/-- Two states of one cache meet the law of the cache together (R182). -/
theorem cacheLaw_congr {s t : State} (same : t.link.cache = s.link.cache) (h : CacheLaw s) : CacheLaw t := by
  unfold CacheLaw
  rwa [same]

theorem cacheLaw_keptByCommands : KeptByCommands CacheLaw where
  loop :=
    { moved := fun _ _ _ _ _ _ _ h => h
      raised := id
      evaluated := fun r => cacheLaw_congr (congrArg Link.cache (State.evaluate_around r _).link)
      remembered := id
      relisted := fun _ h => h
      appended := fun _ _ h => h
      replaced := fun _ h => h }
  jumped _ _ _ _ _ _ _ _ h := h
  timed _ h := h
  reset _ _ := (by decide : CacheLaw State.reset)
  restarted h := h
  written _ _ h := h
  disabled _ h := h
  listed _ h := h
  lineMode _ h := h
  unlatched h := h
  eventsCleared _ h := h
  subscribed _ h := h
  reported _ h := h
  fetched _ _ h := h
  streamOn _ _ h := h
  streamOff h := h
  acknowledged _ _ _ _ h := h
  composed _ _ _ h := h
  timedOut _ h := h
  dequeued _ h := h
  finished isKind token _ _ _ _ := by
    rintro e he
    obtain rfl := Option.mem_some_iff.1 he
    exact ⟨isKind, token, rfl, rfl⟩
  answered _ _ _ h := h
  repeated _ _ h := h
  replyTaken _ h := h
  sent _ h := h
  received b := cacheLaw_congr (Link.character_replies_cache b _).2
  framingFailed h := h

/-- Two states of the same replies and one cache meet the law of the replies together (R172). -/
theorem replyLaw_congr {s t : State} (replies : t.link.replies = s.link.replies) (cache : t.link.cache = s.link.cache)
    (h : ReplyLaw s) : ReplyLaw t := by
  unfold ReplyLaw
  rwa [replies, cache]

/-- A reply that fits a frame may join the queue (R172, R179). -/
theorem replyLaw_addReply {s : State} {r : Frame} (fits : 1 ≤ r.payload.length ∧ r.payload.length ≤ 60)
    (h : ReplyLaw s) : ReplyLaw (s.addReply r) := by
  refine ⟨fun x hx => ?_, h.2⟩
  rcases List.mem_append.1 hx with hx | hx
  · exact h.1 x hx
  · rw [List.mem_singleton.1 hx]; exact fits

/-- A frame found in the repeat cache stands there with its reply (R182). -/
theorem Link.mem_cache_of_cached {l : Link} {f r : Frame} (h : l.cached f = some r) : (f, r) ∈ l.cache := by
  unfold Link.cached at h
  split at h
  next g reply held =>
    split at h
    next same => cases h; rw [held, same]; rfl
    next => cases h
  · cases h

theorem replyLaw_keptByCommands : KeptByCommands ReplyLaw where
  loop :=
    { moved := fun _ _ _ _ _ _ _ h => h
      raised := id
      evaluated := fun r =>
        have same := (State.evaluate_around r _).link
        replyLaw_congr (congrArg Link.replies same) (congrArg Link.cache same)
      remembered := id
      relisted := fun _ h => h
      appended := fun _ _ h => h
      replaced := fun _ h => h }
  jumped _ _ _ _ _ _ _ _ h := h
  timed _ h := h
  reset _ _ := (by decide : ReplyLaw State.reset)
  restarted h := h
  written _ _ h := h
  disabled _ h := h
  listed _ h := h
  lineMode _ h := h
  unlatched h := h
  eventsCleared _ h := h
  subscribed _ h := h
  reported _ h := h
  fetched _ _ h := h
  streamOn _ _ h := h
  streamOff h := h
  acknowledged _ _ _ _ h := h
  composed _ _ _ h := h
  timedOut _ h := h
  dequeued _ h := h
  finished _ _ _ pos le h := by
    refine ⟨(replyLaw_addReply ⟨pos, le⟩ h).1, fun e he => ?_⟩
    obtain rfl := Option.mem_some_iff.1 he
    exact ⟨pos, le⟩
  answered _ pos le := replyLaw_addReply ⟨pos, le⟩
  repeated _ cached h := replyLaw_addReply (h.2 _ (Link.mem_cache_of_cached cached)) h
  replyTaken waits h := ⟨fun r hr => h.1 r (by rw [waits]; exact List.mem_cons_of_mem _ hr), h.2⟩
  sent _ h := h
  received b := replyLaw_congr (Link.character_replies_cache b _).1 (Link.character_replies_cache b _).2
  framingFailed h := h

end Sys2Proof.Machine
end

section
namespace Sys2Proof.Machine

/-! PROOFS. Where the scan stands: the laws of the queue, the measurement path, the scan's place, range control and the
records (R22, R40, R50, R59, R78, R104, R110) as one shape per scan state. -/

/-! ## The shapes -/

/-- The rail in READY with no hold time running. -/
def Rail.on : Rail := { state := .ready, startTimer := none, holdTimer := none, cause := none }

/-- The rail of a scan that waits for it: STARTING, or READY. -/
def Rail.Waits (r : Rail) : Prop :=
  r = .on ∨ ∃ t, r = { state := .starting, startTimer := some t, holdTimer := none, cause := none }

/-- What every scan state has in common: lawful channel records, and a list of at most 128 lawful records. -/
structure Stock (t : Vector Channel 24) (l : List Queued) : Prop where
  channels : ∀ n : Fin 24, ChannelLaw t[n]
  room : l.length ≤ 128
  records : ∀ e ∈ l, e.record.lawful = true

/-- A staged record is lawful and waits for a full list (R104, R110). -/
def StagedWaits (q : ResultQueue) : Prop := ∀ r ∈ q.staged, r.lawful = true ∧ q.list.length = 128

/-- Range control's state is one that the step may have (R59, R64, R68). -/
structure RangingFits (g : Ranging) (t : Vector Channel 24) (st : Step) : Prop where
  changes : g.changes ≤ 4
  range : rangeFits t[st.channel].function g.sampleRange = true
  lock : rangeFits t[st.channel].function g.lock = true
  mean : g.lock.isSome = true → st.mean = true

/-- The continuations that go on with a step's samples on range control's saved state (R70). -/
def Continuation.goesOnSampling : Continuation → Bool
  | .measure | .nextSample => true
  | .redoStep | .nextStep | .endPass => false

/-- The shape of the measurement path, the staging slot and range control in each scan state. A RUNNING scan connects or
converts, a PAUSING one converts; a PAUSED one stands before a pass or within one. -/
inductive Place (s : State) : Prop
  | idle (scan : s.seq.scan = .idle) (conv : s.conv = .idle) (matrix : s.matrix = .opened)
      (rail : s.rail = .off ∨ ∃ t, s.rail = { Rail.on with holdTimer := some t }) (staged : s.queue.staged = none)
      (ranging : s.ranging = .dropped)
  | armed (scan : s.seq.scan = .armed) (conv : s.conv = .idle) (matrix : s.matrix = .opened) (rail : s.rail.Waits)
      (staged : s.queue.staged = none) (ranging : s.ranging = .dropped)
  | connecting (st : Step) (scan : s.seq.scan = .running) (current : s.currentStep = some st) (conv : s.conv = .idle)
      (shape : MatrixShape s.matrix) (phase : s.matrix.phase = .breaking ∨ s.matrix.phase = .settling)
      (rail : s.rail = .on) (staged : s.queue.staged = none) (fits : RangingFits s.ranging s.table st)
  | converting (st : Step) (scan : s.seq.scan = .running ∨ s.seq.scan = .pausing) (current : s.currentStep = some st)
      (busy : s.conv.phase ≠ .idle) (function : s.conv.function = some s.table[st.channel].function)
      (shape : MatrixShape s.matrix) (phase : s.matrix.phase = .connected) (rail : s.rail = .on)
      (staged : s.queue.staged = none) (fits : RangingFits s.ranging s.table st)
  | held (st : Step) (scan : s.seq.scan = .held) (current : s.currentStep = some st)
      (cont : s.seq.cont.isSome = true) (conv : s.conv = .idle) (shape : MatrixShape s.matrix) (rail : s.rail = .on)
      (staged : StagedWaits s.queue) (ranging : s.ranging = .dropped)
  | pausedToArmed (scan : s.seq.scan = .paused) (resume : s.seq.resume = some .toArmed) (conv : s.conv = .idle)
      (matrix : s.matrix = .opened) (rail : s.rail.Waits) (staged : s.queue.staged = none)
      (ranging : s.ranging = .dropped)
  | pausedWithin (st : Step) (c : Continuation) (scan : s.seq.scan = .paused)
      (resume : s.seq.resume = some (.within c)) (current : s.currentStep = some st) (conv : s.conv = .idle)
      (matrix : s.matrix = .opened) (rail : s.rail = .on) (staged : StagedWaits s.queue)
      (ranging : s.ranging = .dropped
        ∨ (c.goesOnSampling = true ∧ s.queue.staged = none ∧ RangingFits s.ranging s.table st))
  | faulted (scan : s.seq.scan = .faulted) (conv : s.conv = .idle) (matrix : s.matrix = .opened)
      (rail : ∃ cause, s.rail = { state := .fault, startTimer := none, holdTimer := none, cause := some cause })
      (staged : StagedWaits s.queue) (ranging : s.ranging = .dropped)

/-- The laws of the queue, the measurement path, the scan's place, range control and the records, as shapes. -/
structure Sound (s : State) : Prop where
  stock : Stock s.table s.queue.list
  place : Place s

/-- The same laws as the guide has them (R22, R40, R50, R59, R78, R104, R110). -/
def ScanLaws (s : State) : Prop := QueueLaw s ∧ PathLaw s ∧ ProgressLaw s ∧ RangeLaw s ∧ RecordsLaw s

/-! ## The shapes follow from the laws -/

section
variable {s : State}

theorem staged_none {s : State} (h : s.queue.staged.isSome ≠ true) : s.queue.staged = none := by simpa using h

theorem Rail.eq_mk {r : Rail} {state : RailState} {start hold : Option Nat} {cause : Option RailCause}
    (hstate : r.state = state) (hstart : r.startTimer = start) (hhold : r.holdTimer = hold) (hcause : r.cause = cause) :
    r = { state := state, startTimer := start, holdTimer := hold, cause := cause } := by
  subst hstate hstart hhold hcause; rfl

/-- What is there exactly on a condition is not there without it. -/
theorem none_of_iff {α : Type} {o : Option α} {p : Prop} (h : o.isSome = true ↔ p) (np : ¬p) : o = none :=
  Option.not_isSome_iff_eq_none.1 (mt h.1 np)

/-- A rail that is READY outside IDLE has no timer running (R50). -/
theorem RailLaw.on (h : RailLaw s) (ready : s.rail.state = .ready) (active : s.seq.scan ≠ .idle) : s.rail = .on := by
  obtain ⟨start, cause, hold, -⟩ := h
  exact Rail.eq_mk ready (none_of_iff start (by simp [ready])) (none_of_iff hold fun both => active both.2)
    (none_of_iff cause (by simp [ready]))

/-- A rail that is STARTING or READY outside IDLE is one a scan waits for (R50). -/
theorem RailLaw.waits (h : RailLaw s) (up : s.rail.state = .starting ∨ s.rail.state = .ready)
    (active : s.seq.scan ≠ .idle) : s.rail.Waits := by
  rcases up with starting | ready
  · obtain ⟨start, cause, hold, -⟩ := h
    obtain ⟨t, running⟩ := Option.isSome_iff_exists.1 (start.2 starting)
    exact .inr ⟨t, Rail.eq_mk starting running (none_of_iff hold fun both => active both.2)
      (none_of_iff cause (by simp [starting]))⟩
  · exact .inl (h.on ready active)

/-- In IDLE the rail is OFF, or READY in its hold time (R54). -/
theorem RailLaw.idle (h : RailLaw s) (scan : s.seq.scan = .idle) :
    s.rail = .off ∨ ∃ t, s.rail = { Rail.on with holdTimer := some t } := by
  obtain ⟨start, cause, hold, -, down, -⟩ := h
  rcases down scan with off | ready
  · exact .inl (Rail.eq_mk off (none_of_iff start (by simp [off])) (none_of_iff hold (by simp [off]))
      (none_of_iff cause (by simp [off])))
  · obtain ⟨t, running⟩ := Option.isSome_iff_exists.1 (hold.2 ⟨ready, scan⟩)
    exact .inr ⟨t, Rail.eq_mk ready (none_of_iff start (by simp [ready])) running
      (none_of_iff cause (by simp [ready]))⟩

/-- In FAULTED the rail is in FAULT, with a cause and no timer (R50, R55). -/
theorem RailLaw.faulted (h : RailLaw s) (scan : s.seq.scan = .faulted) :
    ∃ cause, s.rail = { state := .fault, startTimer := none, holdTimer := none, cause := some cause } := by
  obtain ⟨start, cause, hold, fault, -⟩ := h
  have state := fault.1 scan
  obtain ⟨c, found⟩ := Option.isSome_iff_exists.1 (cause.2 state)
  exact ⟨c, Rail.eq_mk state (none_of_iff start (by simp [state])) (none_of_iff hold (by simp [state])) found⟩

theorem currentStep_of_lt (h : s.seq.step < s.list.length) : ∃ st, s.currentStep = some st :=
  ⟨_, List.getElem?_eq_getElem h⟩

theorem lt_of_currentStep {st : Step} (h : s.currentStep = some st) : s.seq.step < s.list.length :=
  (List.getElem?_eq_some_iff.1 h).1

/-- No sample state fits every step (R59). -/
theorem rangingFits_dropped (t : Vector Channel 24) (st : Step) : RangingFits .dropped t st := by
  constructor <;> simp [Ranging.dropped, rangeFits]

theorem Sound.of_laws (h : ScanLaws s) : Sound s := by
  obtain ⟨⟨room, slot⟩, ⟨⟨convIdle, convBusy⟩, ⟨shape, connected⟩, rail, pausing⟩, ⟨within, heldCont, pausedResume,
    running⟩, ⟨channels, changes, notSampling, slotDrops, step⟩, listed, stagedLawful⟩ := h
  have staged : StagedWaits s.queue := fun r hr => ⟨stagedLawful r hr, (slot (Option.isSome_of_mem hr)).1⟩
  have empty (place : ¬(s.seq.scan = .held ∨ s.seq.scan = .faulted
      ∨ (s.seq.scan = .paused ∧ s.seq.resume ≠ some .toArmed))) : s.queue.staged = none :=
    staged_none fun occupied => place (slot occupied).2
  have converterRests (scan : ¬(s.seq.scan = .running ∨ s.seq.scan = .pausing)) : s.conv = .idle :=
    convIdle (by_contra fun busy => scan (convBusy busy).2)
  have matrixOpen (scan : ¬(s.seq.scan = .running ∨ s.seq.scan = .pausing ∨ s.seq.scan = .held)) :
      s.matrix = .opened := shape.1 (by_contra fun closed => scan (connected closed).2)
  have fits {st : Step} (current : s.currentStep = some st) : RangingFits s.ranging s.table st :=
    ⟨changes, (step st current).1, (step st current).2.1, (step st current).2.2.1⟩
  have measuring (scan : s.seq.scan = .running ∨ s.seq.scan = .pausing) (busy : s.conv.phase ≠ .idle) : Place s := by
    have inside : s.withinPass = true := by rcases scan with h | h <;> simp [State.withinPass, h]
    obtain ⟨st, current⟩ := currentStep_of_lt (within inside)
    have notIdle : s.seq.scan ≠ .idle := by rcases scan with h | h <;> simp [h]
    have notHeld : s.queue.staged = none := empty (by rcases scan with h | h <;> simp [h])
    exact .converting st scan current busy ((step st current).2.2.2 busy) shape (convBusy busy).1
      (rail.on (rail.2.2.2.2.2.1 inside) notIdle) notHeld (fits current)
  refine ⟨⟨channels, room, listed⟩, ?_⟩
  cases scan : s.seq.scan with
  | idle =>
    exact .idle scan (converterRests (by simp [scan])) (matrixOpen (by simp [scan])) (rail.idle scan)
      (empty (by simp [scan])) (notSampling (by simp [State.sampleInProgress, scan]))
  | armed =>
    exact .armed scan (converterRests (by simp [scan])) (matrixOpen (by simp [scan]))
      (rail.waits (rail.2.2.2.2.2.2 (.inl scan)) (by simp [scan])) (empty (by simp [scan]))
      (notSampling (by simp [State.sampleInProgress, scan]))
  | running =>
    by_cases busy : s.conv.phase = .idle
    · have inside : s.withinPass = true := by simp [State.withinPass, scan]
      obtain ⟨st, current⟩ := currentStep_of_lt (within inside)
      exact .connecting st scan current (convIdle busy) shape ((running scan).resolve_left (absurd busy))
        (rail.on (rail.2.2.2.2.2.1 inside) (by simp [scan])) (empty (by simp [scan])) (fits current)
    · exact measuring (.inl scan) busy
  | pausing => exact measuring (.inr scan) (pausing scan)
  | held =>
    have inside : s.withinPass = true := by simp [State.withinPass, scan]
    obtain ⟨st, current⟩ := currentStep_of_lt (within inside)
    exact .held st scan current (heldCont scan) (converterRests (by simp [scan])) shape
      (rail.on (rail.2.2.2.2.2.1 inside) (by simp [scan])) staged
      (notSampling (by simp [State.sampleInProgress, scan]))
  | paused =>
    obtain ⟨point, resume⟩ := Option.isSome_iff_exists.1 (pausedResume scan)
    cases point with
    | toArmed =>
      exact .pausedToArmed scan resume (converterRests (by simp [scan])) (matrixOpen (by simp [scan]))
        (rail.waits (rail.2.2.2.2.2.2 (.inr scan)) (by simp [scan])) (empty (by simp [scan, resume]))
        (notSampling (by simp [State.sampleInProgress, scan, resume]))
    | within c =>
      have inside : s.withinPass = true := by simp [State.withinPass, scan, resume]
      obtain ⟨st, current⟩ := currentStep_of_lt (within inside)
      refine .pausedWithin st c scan resume current (converterRests (by simp [scan])) (matrixOpen (by simp [scan]))
        (rail.on (rail.2.2.2.2.2.1 inside) (by simp [scan])) staged ?_
      by_cases occupied : s.queue.staged.isSome = true
      · exact .inl (slotDrops occupied)
      cases sampling : c.goesOnSampling with
      | true => exact .inr ⟨rfl, staged_none occupied, fits current⟩
      | false =>
        refine .inl (notSampling ?_)
        cases c <;> simp_all [Continuation.goesOnSampling, State.sampleInProgress]
  | faulted =>
    exact .faulted scan (converterRests (by simp [scan])) (matrixOpen (by simp [scan])) (rail.faulted scan) staged
      (notSampling (by simp [State.sampleInProgress, scan]))

/-! ## The laws follow from the shapes -/

theorem Sound.queueLaw (h : Sound s) : QueueLaw s := by
  refine ⟨h.stock.room, fun occupied => ?_⟩
  obtain ⟨r, hr⟩ := Option.isSome_iff_exists.1 occupied
  cases h.place with
  | held _ scan _ _ _ _ _ staged => exact ⟨(staged r hr).2, .inl scan⟩
  | pausedWithin _ _ scan resume _ _ _ _ staged => exact ⟨(staged r hr).2, .inr (.inr ⟨scan, by simp [resume]⟩)⟩
  | faulted scan _ _ _ staged => exact ⟨(staged r hr).2, .inr (.inl scan)⟩
  | idle _ _ _ _ staged | armed _ _ _ _ staged | connecting _ _ _ _ _ _ _ staged
  | converting _ _ _ _ _ _ _ _ staged | pausedToArmed _ _ _ _ _ staged => simp [staged] at occupied

theorem Sound.recordsLaw (h : Sound s) : RecordsLaw s := by
  refine ⟨h.stock.records, fun r hr => ?_⟩
  cases h.place with
  | held _ _ _ _ _ _ _ staged | pausedWithin _ _ _ _ _ _ _ _ staged | faulted _ _ _ _ staged => exact (staged r hr).1
  | idle _ _ _ _ staged | armed _ _ _ _ staged | connecting _ _ _ _ _ _ _ staged
  | converting _ _ _ _ _ _ _ _ staged | pausedToArmed _ _ _ _ _ staged => simp [staged] at hr

theorem Sound.converterLaw (h : Sound s) : ConverterLaw s := by
  cases h.place with
  | converting _ scan _ busy _ _ phase => exact ⟨fun idle => absurd idle busy, fun _ => ⟨phase, scan⟩⟩
  | idle _ conv | armed _ conv | connecting _ _ _ conv | held _ _ _ _ conv | pausedToArmed _ _ conv
  | pausedWithin _ _ _ _ _ conv | faulted _ conv => exact ⟨fun _ => conv, fun busy => absurd (by rw [conv]; rfl) busy⟩

theorem matrixShape_opened : MatrixShape .opened := by decide

theorem Sound.matrixLaw (h : Sound s) : MatrixLaw s := by
  have opened (matrix : s.matrix = .opened) : MatrixLaw s :=
    ⟨matrix ▸ matrixShape_opened, fun closed => absurd (by rw [matrix]; rfl) closed⟩
  cases h.place with
  | connecting _ scan _ _ shape _ rail => exact ⟨shape, fun _ => ⟨by rw [rail]; rfl, .inl scan⟩⟩
  | converting _ scan _ _ _ shape _ rail =>
    exact ⟨shape, fun _ => ⟨by rw [rail]; rfl, scan.imp_right .inl⟩⟩
  | held _ scan _ _ _ shape rail => exact ⟨shape, fun _ => ⟨by rw [rail]; rfl, .inr (.inr scan)⟩⟩
  | idle _ _ matrix | armed _ _ matrix | pausedToArmed _ _ _ matrix | pausedWithin _ _ _ _ _ _ matrix
  | faulted _ _ matrix => exact opened matrix

theorem Sound.railLaw (h : Sound s) : RailLaw s := by
  cases h.place with
  | idle scan _ _ rail =>
    rcases rail with rail | ⟨t, rail⟩ <;> simp [RailLaw, rail, Rail.off, Rail.on, scan, State.withinPass]
  | armed scan _ _ rail =>
    rcases rail with rail | ⟨t, rail⟩ <;> simp [RailLaw, rail, Rail.on, scan, State.withinPass]
  | pausedToArmed scan resume _ _ rail =>
    rcases rail with rail | ⟨t, rail⟩ <;> simp [RailLaw, rail, Rail.on, scan, State.withinPass, resume]
  | pausedWithin _ _ scan resume _ _ _ rail => simp [RailLaw, rail, Rail.on, scan, State.withinPass, resume]
  | faulted scan _ _ rail => obtain ⟨cause, rail⟩ := rail; simp [RailLaw, rail, scan, State.withinPass]
  | converting _ scan _ _ _ _ _ rail =>
    rcases scan with scan | scan <;> simp [RailLaw, rail, Rail.on, scan, State.withinPass]
  | connecting _ scan _ _ _ _ rail | held _ scan _ _ _ _ rail =>
    simp [RailLaw, rail, Rail.on, scan, State.withinPass]

theorem Sound.pausingLaw (h : Sound s) : PausingLaw s := by
  intro pausing
  cases h.place with
  | converting _ _ _ busy => exact busy
  | idle scan | armed scan | connecting _ scan | held _ scan | pausedToArmed scan | pausedWithin _ _ scan
  | faulted scan => cases scan.symm.trans pausing

theorem Sound.progressLaw (h : Sound s) : ProgressLaw s := by
  cases h.place with
  | idle scan | armed scan | faulted scan => simp [ProgressLaw, State.withinPass, scan]
  | pausedToArmed scan resume => simp [ProgressLaw, State.withinPass, scan, resume]
  | pausedWithin _ _ scan resume current =>
    simp [ProgressLaw, State.withinPass, scan, resume, lt_of_currentStep current]
  | held _ scan current cont => simp [ProgressLaw, State.withinPass, scan, cont, lt_of_currentStep current]
  | connecting _ scan current _ _ phase =>
    simp [ProgressLaw, State.withinPass, scan, phase, lt_of_currentStep current]
  | converting _ scan current busy =>
    rcases scan with scan | scan <;> simp [ProgressLaw, State.withinPass, scan, busy, lt_of_currentStep current]

theorem Sound.rangeLaw (h : Sound s) : RangeLaw s := by
  have dropped (ranging : s.ranging = .dropped) (conv : s.conv = .idle) : RangeLaw s :=
    ⟨h.stock.channels, by simp [ranging, Ranging.dropped], fun _ => ranging, fun _ => ranging, fun st _ => by
      have fits := rangingFits_dropped s.table st
      rw [← ranging] at fits
      exact ⟨fits.range, fits.lock, fits.mean, fun busy => absurd (by rw [conv]; rfl) busy⟩⟩
  have measured {st : Step} (current : s.currentStep = some st) (inProgress : s.sampleInProgress = true)
      (staged : s.queue.staged = none) (fits : RangingFits s.ranging s.table st)
      (function : s.conv.phase ≠ .idle → s.conv.function = some s.table[st.channel].function) : RangeLaw s := by
    refine ⟨h.stock.channels, fits.changes, by simp [inProgress], by simp [staged], fun st' hst' => ?_⟩
    obtain rfl := Option.some.inj (current.symm.trans hst')
    exact ⟨fits.range, fits.lock, fits.mean, function⟩
  cases h.place with
  | idle _ conv _ _ _ ranging | armed _ conv _ _ _ ranging | held _ _ _ _ conv _ _ _ ranging
  | pausedToArmed _ _ conv _ _ _ ranging | faulted _ conv _ _ _ ranging => exact dropped ranging conv
  | connecting _ scan current conv _ _ _ staged fits =>
    exact measured current (by simp [State.sampleInProgress, scan]) staged fits
      fun busy => absurd (by rw [conv]; rfl) busy
  | converting _ scan current busy function _ _ _ staged fits =>
    exact measured current (by rcases scan with scan | scan <;> simp [State.sampleInProgress, scan]) staged fits
      fun _ => function
  | pausedWithin _ c scan resume current conv _ _ _ ranging =>
    rcases ranging with ranging | ⟨sampling, staged, fits⟩
    · exact dropped ranging conv
    · refine measured current ?_ staged fits fun busy => absurd (by rw [conv]; rfl) busy
      cases c with
      | measure | nextSample => simp [State.sampleInProgress, scan, resume]
      | redoStep | nextStep | endPass => cases sampling

/-- The shapes are the laws. -/
theorem sound_iff (s : State) : Sound s ↔ ScanLaws s :=
  ⟨fun h => ⟨h.queueLaw, ⟨h.converterLaw, h.matrixLaw, h.railLaw, h.pausingLaw⟩, h.progressLaw, h.rangeLaw,
    h.recordsLaw⟩, Sound.of_laws⟩

end

end Sys2Proof.Machine
end

section
namespace Sys2Proof.Machine

/-! PROOFS. The sample loop takes shapes to shapes: connecting, producing a record, ending a pass, and what follows. -/

/-- Between two samples of a pass: no conversion runs, the rail is READY and no record is staged. -/
def Between (s : State) : Prop :=
  Stock s.table s.queue.list ∧ s.conv = .idle ∧ MatrixShape s.matrix ∧ s.rail = .on ∧ s.queue.staged = none

theorem stagedWaits_of_none {q : ResultQueue} (h : q.staged = none) : StagedWaits q := by
  intro r hr
  rw [h] at hr
  cases hr

/-! ## Connecting (R42, R43, R45, R60) -/

theorem matrixShape_breakTo (t : Target) : MatrixShape (.breakTo t) := by simp [MatrixShape, Matrix.breakTo]

/-- A connect request of a RUNNING scan leaves it connecting, or converting where the connection stands (R24, R43). -/
theorem sound_connect {s : State} {st : Step} (t : Target) (b : Between s) (scan : s.seq.scan = .running)
    (current : s.currentStep = some st) (fits : RangingFits s.ranging s.table st) : Sound (s.connect t) := by
  obtain ⟨stock, conv, shape, rail, staged⟩ := b
  have ready : s.rail.state = .ready := by rw [rail]; rfl
  have breaks : Sound (s.withMatrix (.breakTo t)) :=
    ⟨stock, .connecting st scan current conv (matrixShape_breakTo t) (.inl rfl) rail staged fits⟩
  have goesOn (phase : s.matrix.phase = .breaking ∨ s.matrix.phase = .settling) : Sound (s.connect t) := by
    by_cases target : s.matrix.target = some t
    · rw [State.connect_same_target phase target]
      exact ⟨stock, .connecting st scan current conv shape phase rail staged fits⟩
    · rwa [State.connect_other_target ready phase target]
  cases phase : s.matrix.phase with
  | opened => rwa [State.connect_of_opened ready phase]
  | breaking => exact goesOn (.inl phase)
  | settling => exact goesOn (.inr phase)
  | connected =>
    by_cases place : s.matrix.channel = some t.channel ∧ s.matrix.selection = some (t.function, t.range)
    · rw [State.connect_in_place ready phase place.1 place.2,
        State.startConversion_of_ready (by rw [conv]; rfl) phase current (.inl scan)]
      exact ⟨stock, .converting st (.inl scan) current (by simp [State.startedOn]) rfl shape phase rail staged fits⟩
    · rwa [State.connect_elsewhere ready phase (not_and_or.1 place)]

/-- The first range of a sample is one of the channel's function (R60). -/
theorem State.firstRange_le {s : State} {st : Step} (stock : Stock s.table s.queue.list)
    (fits : RangingFits s.ranging s.table st) : s.firstRange st ≤ highestRange s.table[st.channel].function := by
  obtain ⟨range, -, -, remembered⟩ := stock.channels st.channel
  unfold State.firstRange
  dsimp only
  split
  next r fixed => rw [fixed] at range; exact of_decide_eq_true range
  next =>
    split
    · cases lock : s.ranging.lock with
      | none => exact remembered
      | some r =>
        have lockFits := fits.lock
        rw [lock] at lockFits
        exact of_decide_eq_true lockFits
    · exact remembered

/-- A sample begins in RUNNING (R60, R88). -/
theorem sound_beginSample {s : State} {st : Step} (b : Between s) (scan : s.seq.scan = .running)
    (current : s.currentStep = some st) (fits : RangingFits s.ranging s.table st) : Sound (s.beginSample st) :=
  sound_connect (s := (s.withRanging _).withSeq _) _ b scan current
    ⟨Nat.zero_le _, decide_eq_true (State.firstRange_le b.1 fits), fits.lock, fits.mean⟩

/-! ## Ending a pass, holding, pausing -/

/-- The end of a pass leaves the scan IDLE, ARMED, or PAUSED before the next pass (R92, R96). -/
theorem sound_endPass {s : State} (b : Between s) (ranging : s.ranging = .dropped) : Sound s.endPass := by
  obtain ⟨stock, conv, -, rail, staged⟩ := b
  unfold State.endPass
  dsimp only
  split
  · exact ⟨stock, .idle rfl conv rfl (.inr ⟨0, congrArg Rail.release rail⟩) staged ranging⟩
  · split
    · exact ⟨stock, .pausedToArmed rfl rfl conv rfl (.inl rail) staged ranging⟩
    · exact ⟨stock, .armed rfl conv rfl (.inl rail) staged ranging⟩

/-! ## The record of a step -/

/-- The second state has the measurement path, range control and the list of the first, and channels of the same
functions. -/
structure SamePath (s t : State) : Prop where
  conv : t.conv = s.conv
  matrix : t.matrix = s.matrix
  rail : t.rail = s.rail
  ranging : t.ranging = s.ranging
  list : t.list = s.list
  functions : ∀ n : Fin 24, t.table[n].function = s.table[n].function

theorem SamePath.trans {s t u : State} (h : SamePath s t) (k : SamePath t u) : SamePath s u :=
  ⟨k.conv.trans h.conv, k.matrix.trans h.matrix, k.rail.trans h.rail, k.ranging.trans h.ranging, k.list.trans h.list,
    fun n => (k.functions n).trans (h.functions n)⟩

/-- Range control's state fits a step by the function of the step's channel alone. -/
theorem RangingFits.congr {g : Ranging} {t u : Vector Channel 24} {st : Step}
    (function : u[st.channel].function = t[st.channel].function) (h : RangingFits g t st) : RangingFits g u st := by
  obtain ⟨changes, range, lock, mean⟩ := h
  rw [← function] at range lock
  exact ⟨changes, range, lock, mean⟩

/-- A record rewritten keeps the others. -/
theorem get_set_of_ne {t : Vector Channel 24} {n m : Fin 24} (h : n ≠ m) (c : Channel) : (t.set n c)[m] = t[m] :=
  Vector.getElem_set_ne n.isLt m.isLt fun e => h (Fin.ext e)

theorem get_set_self (t : Vector Channel 24) (n : Fin 24) (c : Channel) : (t.set n c)[n] = c := by simp

/-- A property of every record holds after one is rewritten to a record of that property. -/
theorem forall_get_set {t : Vector Channel 24} {p : Fin 24 → Channel → Prop} (h : ∀ m, p m t[m]) (n : Fin 24)
    {c : Channel} (hc : p n c) (m : Fin 24) : p m (t.set n c)[m] := by
  by_cases same : n = m
  · subst same; rwa [get_set_self]
  · rw [get_set_of_ne same]; exact h m

/-- An evaluation changes one trip state at most (R147). -/
theorem State.evaluate_path (r : Record) (s : State) (stock : Stock s.table s.queue.list) :
    SamePath s (s.evaluate r).2 ∧ Stock (s.evaluate r).2.table (s.evaluate r).2.queue.list
      ∧ (s.evaluate r).2.queue = s.queue ∧ (s.evaluate r).2.seq = s.seq := by
  have rewritten (trip : TripState) (n : Fin 24) :
      ChannelLaw (s.table.set r.channel { s.table[r.channel] with trip := trip })[n]
        ∧ (s.table.set r.channel { s.table[r.channel] with trip := trip })[n].function = s.table[n].function :=
    forall_get_set (p := fun m c => ChannelLaw c ∧ c.function = s.table[m].function)
      (fun m => ⟨stock.channels m, rfl⟩) r.channel (c := { s.table[r.channel] with trip := trip })
      ⟨stock.channels r.channel, rfl⟩ n
  have written (trip : TripState) : Stock (s.table.set r.channel { s.table[r.channel] with trip := trip }) s.queue.list :=
    ⟨fun n => (rewritten trip n).1, stock.room, stock.records⟩
  rcases (s.evaluate_cases r).2 with e | ⟨-, e⟩ | ⟨-, e⟩ <;> rw [e]
  · exact ⟨⟨rfl, rfl, rfl, rfl, rfl, fun _ => rfl⟩, stock, rfl, rfl⟩
  · exact ⟨⟨rfl, rfl, rfl, rfl, rfl, fun n => (rewritten .tripped n).2⟩, written .tripped, rfl, rfl⟩
  · exact ⟨⟨rfl, rfl, rfl, rfl, rfl, fun n => (rewritten .clear n).2⟩, written .clear, rfl, rfl⟩

/-- A record stays lawful through its evaluation, which sets the TRIP flag of a measured record at most (R105, R147). -/
theorem Record.lawful_evaluate {r : Record} (h : r.lawful = true) (s : State) : (s.evaluate r).1.lawful = true := by
  cases skipped : r.flags.skipped with
  | true => rwa [State.evaluate_of_skipped skipped]
  | false =>
    rcases (s.evaluate_cases r).1 with e | e <;> rw [e]
    · exact h
    · cases function : r.function with
      | some f => simpa [Record.lawful, function] using h
      | none =>
        simp only [Record.lawful, function, Bool.and_eq_true, decide_eq_true_eq] at h
        rw [h.2] at skipped
        cases skipped

/-- The number and the REDONE flag leave a record lawful (R105, R108). -/
theorem Record.lawful_assign {r : Record} (h : r.lawful = true) (s : State) : (s.assign r).1.lawful = true := by
  cases function : r.function with
  | some f => simpa [Record.lawful, State.assign, function] using h
  | none =>
    simp only [Record.lawful, function, Bool.and_eq_true, decide_eq_true_eq] at h
    obtain ⟨zeros, flags⟩ := h
    simp only [Record.lawful, State.assign, function, Bool.and_eq_true, decide_eq_true_eq]
    exact ⟨zeros, by rw [flags]⟩

/-- What the production of a record leaves, by what admission answers (R90, R109, R112 to R115). -/
structure Produced (s : State) (a : Admission) (v : State) : Prop where
  path : SamePath s v
  stock : Stock v.table v.queue.list
  seq : v.seq = { s.seq with redo := false }
  goOn : a = .goOn → v.queue.staged = none
  hold : a = .hold → StagedWaits v.queue

theorem Stock.append {t : Vector Channel 24} {l : List Queued} (h : Stock t l) {r : Record} (lawful : r.lawful = true)
    (room : l.length < 128) : Stock t (l ++ [{ record := r, sent := false }]) := by
  refine ⟨h.channels, ?_, fun e he => ?_⟩
  · rw [List.length_append]; exact room
  · rcases List.mem_append.1 he with he | he
    · exact h.records e he
    · rw [List.mem_singleton.1 he]; exact lawful

/-- A part of the list is stocked as the list is. -/
theorem Stock.sublist {t : Vector Channel 24} {l k : List Queued} (h : Stock t l) (sub : k.Sublist l) : Stock t k :=
  ⟨h.channels, sub.length_le.trans h.room, fun e he => h.records e (sub.subset he)⟩

/-- Dropping the oldest fresh record makes room in a full list (R115). -/
theorem ResultQueue.dropOldestFresh_length {q : ResultQueue} {r : Record} (h : q.oldestFresh = some r) :
    q.dropOldestFresh.list.length + 1 = q.list.length := by
  obtain ⟨e, found, -⟩ := Option.map_eq_some_iff.1 h
  exact List.length_eraseP_add_one (List.mem_of_find?_eq_some found)
    (List.find?_some (p := fun e : Queued => !e.sent) found)

/-- Admission of a lawful record (R112 to R115). -/
theorem State.admitRecord_path {s : State} {r : Record} (stock : Stock s.table s.queue.list)
    (staged : s.queue.staged = none) (lawful : r.lawful = true) :
    SamePath s (s.admitRecord r).2 ∧ Stock (s.admitRecord r).2.table (s.admitRecord r).2.queue.list
      ∧ (s.admitRecord r).2.seq = s.seq ∧ ((s.admitRecord r).1 = .goOn → (s.admitRecord r).2.queue.staged = none)
      ∧ ((s.admitRecord r).1 = .hold → StagedWaits (s.admitRecord r).2.queue) := by
  have same (q : ResultQueue) (e : EventTable) : SamePath s ((s.withQueue q).withEvents e) :=
    ⟨rfl, rfl, rfl, rfl, rfl, fun _ => rfl⟩
  rcases s.admitRecord_cases r with ⟨room, e⟩ | ⟨full, -, e⟩ | ⟨-, e⟩ | ⟨lost, full, -, fresh, e⟩ <;> rw [e]
  · exact ⟨same (s.queue.append r) s.events, stock.append lawful room, rfl, fun _ => staged, nofun⟩
  · refine ⟨same { s.queue with staged := some r } s.events, stock, rfl, nofun, fun _ x hx => ?_⟩
    obtain rfl := Option.mem_some_iff.1 hx
    exact ⟨lawful, Nat.le_antisymm stock.room full⟩
  · exact ⟨same s.queue _, stock, rfl, fun _ => staged, nofun⟩
  · have room : s.queue.dropOldestFresh.list.length < 128 :=
      (ResultQueue.dropOldestFresh_length fresh).trans_le stock.room
    exact ⟨same _ _, (stock.sublist List.eraseP_sublist).append lawful room, rfl, fun _ => staged,
      nofun⟩

theorem State.produce_path {s : State} {draft : Record} (stock : Stock s.table s.queue.list)
    (staged : s.queue.staged = none) (lawful : draft.lawful = true) :
    Produced s (s.produce draft).1 (s.produce draft).2 := by
  obtain ⟨judged, judgedStock, judgedQueue, judgedSeq⟩ :=
    State.evaluate_path (s.assign draft).1 (s.assign draft).2 stock
  obtain ⟨admitted, admittedStock, admittedSeq, goOn, hold⟩ :=
    State.admitRecord_path (r := ((s.assign draft).2.evaluate (s.assign draft).1).1) judgedStock
      (by rw [judgedQueue]; exact staged) (Record.lawful_evaluate (Record.lawful_assign lawful s) _)
  have assigned : SamePath s (s.assign draft).2 := ⟨rfl, rfl, rfl, rfl, rfl, fun _ => rfl⟩
  exact ⟨(assigned.trans judged).trans admitted, admittedStock, admittedSeq.trans judgedSeq, goOn, hold⟩

/-- A step that completes drops its lock and its accumulator, and raises its MARK (R91). -/
theorem State.completeStep_eq (st : Step) (s : State) : ∃ e, s.completeStep st = { s with
    ranging := { s.ranging with lock := none }, seq := { s.seq with acc := .empty }, events := e } := by
  unfold State.completeStep
  dsimp only
  split
  · exact ⟨_, rfl⟩
  · exact ⟨s.events, rfl⟩

/-- The record of a skipped step is lawful (R87, R104). -/
theorem State.skippedRecord_lawful (st : Step) (s : State) : (s.skippedRecord st).lawful = true := rfl

end Sys2Proof.Machine
end

section
namespace Sys2Proof.Machine

/-! PROOFS. The sample loop on shapes, continued: steps and continuations, an accepted sample, a conversion's outcome. -/

/-! ## Starting steps (R87) -/

theorem currentStep_of_drop {s : State} {st : Step} {rest : List Step} (h : s.list.drop s.seq.step = st :: rest) :
    s.currentStep = some st := by
  have first : (s.list.drop s.seq.step)[0]? = some st := by rw [h]; rfl
  rwa [List.getElem?_drop, Nat.add_zero] at first

/-- The range control state that a completed step leaves, where no sample is being measured (R91). -/
theorem ranging_dropped {g : Ranging} (range : g.sampleRange = none) (changes : g.changes = 0) (lock : g.lock = none) :
    g = .dropped := by
  cases g
  simp_all [Ranging.dropped]

/-- A record of the step has been through production, and no sample is being measured: the state from which the scan
goes on or holds (R90, R91). -/
structure Finished (s : State) (a : Admission) (t : State) : Prop where
  stock : Stock t.table t.queue.list
  conv : t.conv = .idle
  shape : MatrixShape t.matrix
  rail : t.rail = .on
  ranging : t.ranging = .dropped
  list : t.list = s.list
  scan : t.seq.scan = s.seq.scan
  step : t.seq.step = s.seq.step
  goOn : a = .goOn → t.queue.staged = none
  hold : a = .hold → StagedWaits t.queue

section
variable {s t : State} {a : Admission} {st : Step}

/-- A record that does not complete its step leaves no step lock behind only where none was set (R90). -/
theorem Produced.finished (made : Produced s a t) (b : Between s) (ranging : s.ranging = .dropped) : Finished s a t := by
  obtain ⟨-, conv, shape, rail, -⟩ := b
  obtain ⟨path, stock, seq, goOn, hold⟩ := made
  exact ⟨stock, path.conv.trans conv, path.matrix ▸ shape, path.rail.trans rail, path.ranging.trans ranging, path.list,
    by rw [seq], by rw [seq], goOn, hold⟩

/-- A record that completes its step leaves range control with nothing (R91). -/
theorem Produced.completed (made : Produced s a t) (b : Between s) (range : s.ranging.sampleRange = none)
    (changes : s.ranging.changes = 0) (st : Step) : Finished s a (t.completeStep st) := by
  obtain ⟨-, conv, shape, rail, -⟩ := b
  obtain ⟨path, stock, seq, goOn, hold⟩ := made
  obtain ⟨events, completed⟩ := State.completeStep_eq st t
  rw [completed]
  refine ⟨stock, path.conv.trans conv, path.matrix ▸ shape, path.rail.trans rail, ranging_dropped ?_ ?_ rfl, path.list,
    by rw [seq], by rw [seq], goOn, hold⟩
  · exact (congrArg Ranging.sampleRange path.ranging).trans range
  · exact (congrArg Ranging.changes path.ranging).trans changes

theorem Finished.between (h : Finished s a t) (goOn : a = .goOn) : Between t :=
  ⟨h.stock, h.conv, h.shape, h.rail, h.goOn goOn⟩

theorem Finished.currentStep (h : Finished s a t) (current : s.currentStep = some st) : t.currentStep = some st := by
  rw [State.currentStep, h.list, h.step]; exact current

theorem Finished.slot (h : Finished s a t) : StagedWaits t.queue := by
  cases a with
  | goOn => exact stagedWaits_of_none (h.goOn rfl)
  | hold => exact h.hold rfl

/-- The scan holds before what comes next (R93). -/
theorem Finished.enterHeld (h : Finished s a t) (current : s.currentStep = some st) (c : Continuation) :
    Sound (t.enterHeld c) :=
  ⟨h.stock, .held st rfl (h.currentStep current) rfl h.conv h.shape h.rail h.slot h.ranging⟩

/-- The scan is PAUSED before what comes next (R95, R96). -/
theorem Finished.pauseWithin (h : Finished s a t) (current : s.currentStep = some st) (c : Continuation) :
    Sound (t.pauseWithin c) :=
  ⟨h.stock, .pausedWithin st c rfl rfl (h.currentStep current) h.conv rfl h.rail h.slot (.inl h.ranging)⟩

end

/-- Starting the steps from the position on in RUNNING ends in a lawful place (R87, R91 to R93). -/
theorem sound_startSteps (steps : List Step) : ∀ {s : State}, Between s → s.seq.scan = .running →
    s.ranging = .dropped → s.list.drop s.seq.step = steps → Sound (startSteps steps s) := by
  induction steps with
  | nil => exact fun b _ ranging _ => sound_endPass b ranging
  | cons st rest ih =>
    intro s b scan ranging position
    have current := currentStep_of_drop position
    rw [startSteps]
    split
    · exact sound_beginSample (s := s.withSeq _) b scan current (by
        rw [State.withSeq_ranging, ranging]; exact rangingFits_dropped _ st)
    · have skipped := State.produce_path (s := s.withSeq { s.seq with sample := 0 }) b.1 b.2.2.2.2
        (State.skippedRecord_lawful st (s.withSeq { s.seq with sample := 0 }))
      have finished := skipped.completed b (congrArg Ranging.sampleRange ranging) (congrArg Ranging.changes ranging) st
      dsimp only
      generalize (s.withSeq { s.seq with sample := 0 }).produce
        ((s.withSeq { s.seq with sample := 0 }).skippedRecord st) = made at finished ⊢
      obtain ⟨a, v⟩ := made
      cases a with
      | hold => exact finished.enterHeld current _
      | goOn =>
        refine ih (finished.between rfl) (finished.scan.trans scan) finished.ranging ?_
        have step : (v.completeStep st).seq.step = s.seq.step := finished.step
        have list : (v.completeStep st).list = s.list := finished.list
        dsimp only [State.withSeq_list, State.withSeq_seq]
        rw [list, step, ← List.drop_drop, position]
        rfl

/-! ## Taking a continuation (R78) -/

/-- The sequencer may take this continuation: it goes on sampling on a state of range control that fits the step, or it
finds none (R70, R72). -/
def State.MayTake (s : State) (c : Continuation) : Prop :=
  if c.goesOnSampling then ∃ st, s.currentStep = some st ∧ RangingFits s.ranging s.table st
  else s.ranging = .dropped

theorem State.mayTake_of_dropped {s : State} {st : Step} (current : s.currentStep = some st)
    (ranging : s.ranging = .dropped) (c : Continuation) : s.MayTake c := by
  unfold State.MayTake
  split
  · exact ⟨st, current, by rw [ranging]; exact rangingFits_dropped _ st⟩
  · exact ranging

theorem sound_takeContinuation {s : State} {c : Continuation} (b : Between s) (scan : s.seq.scan = .running)
    (may : s.MayTake c) : Sound (s.takeContinuation c) := by
  unfold State.takeContinuation
  cases c with
  | measure =>
    obtain ⟨st, current, fits⟩ := may
    dsimp only
    rw [current]
    exact sound_connect (s := s.withSeq _) _ b scan current fits
  | nextSample =>
    obtain ⟨st, current, fits⟩ := may
    dsimp only
    rw [current]
    exact sound_beginSample (s := s.withSeq _) b scan current fits
  | redoStep => exact sound_startSteps _ b scan may rfl
  | nextStep => exact sound_startSteps (s := s.withSeq _) _ b scan may rfl
  | endPass => exact sound_endPass b may

/-- After an admission that did not hold it the scan goes on in RUNNING, and ends its pass or pauses in PAUSING (R90,
R96). -/
theorem sound_goOnWith {s : State} {st : Step} {c : Continuation} (b : Between s)
    (scan : s.seq.scan = .running ∨ s.seq.scan = .pausing) (current : s.currentStep = some st) (may : s.MayTake c) :
    Sound (s.goOnWith c) := by
  have paused : Sound (s.pauseWithin c) := by
    obtain ⟨stock, conv, -, rail, staged⟩ := b
    refine ⟨stock, .pausedWithin st c rfl rfl current conv rfl rail (stagedWaits_of_none staged) ?_⟩
    unfold State.MayTake at may
    split at may
    next sampling =>
      obtain ⟨st', current', fits⟩ := may
      obtain rfl := Option.some.inj (current.symm.trans current')
      exact .inr ⟨sampling, staged, fits⟩
    next => exact .inl may
  unfold State.goOnWith
  split
  · cases c with
    | endPass => exact sound_endPass b may
    | measure | nextSample | redoStep | nextStep => exact paused
  next running => exact sound_takeContinuation b (scan.resolve_right running) may

/-! ## An accepted sample (R66, R88 to R91) -/

theorem sound_deliver {s : State} {st : Step} {last : Bool} {draft : Record} (b : Between s)
    (scan : s.seq.scan = .running ∨ s.seq.scan = .pausing) (current : s.currentStep = some st)
    (lawful : draft.lawful = true) (range : s.ranging.sampleRange = none) (changes : s.ranging.changes = 0)
    (lock : last = false → s.ranging.lock = none) : Sound (s.deliver st last draft) := by
  have made := State.produce_path b.1 b.2.2.2.2 lawful
  have finished : Finished s (s.produce draft).1
      (if last then (s.produce draft).2.completeStep st else (s.produce draft).2) := by
    cases last with
    | true => exact made.completed b range changes st
    | false => exact made.finished b (ranging_dropped range changes (lock rfl))
  unfold State.deliver
  dsimp only
  generalize (if last then s.afterStep else Continuation.nextSample) = c
  generalize (if last then (s.produce draft).2.completeStep st else (s.produce draft).2) = done at finished ⊢
  generalize (s.produce draft).1 = a at finished ⊢
  cases a with
  | goOn =>
    have current' := finished.currentStep current
    exact sound_goOnWith (finished.between rfl) (by rw [finished.scan]; exact scan) current'
      (State.mayTake_of_dropped current' finished.ranging c)
  | hold =>
    show Sound (done.holdWith c)
    unfold State.holdWith
    split
    · exact finished.pauseWithin current c
    · exact finished.enterHeld current c

/-- A sample whose range is one of its function. -/
theorem Record.lawful_of_measured {r : Record} {f : MeasFunction} (function : r.function = some f)
    (range : r.range ≤ highestRange f) (value : r.value = normalized f r.range r.count)
    (skipped : r.flags.skipped = false) : r.lawful = true := by
  simp [Record.lawful, function, range, value, skipped]

theorem sound_takeSample {s : State} {st : Step} {a : Sample} (b : Between s)
    (scan : s.seq.scan = .running ∨ s.seq.scan = .pausing) (current : s.currentStep = some st)
    (function : a.function = s.table[st.channel].function) (range : a.range ≤ highestRange a.function)
    (fits : RangingFits s.ranging s.table st) (noRange : s.ranging.sampleRange = none)
    (noChanges : s.ranging.changes = 0) : Sound (s.takeSample st a) := by
  have lockFits : s.ranging.lock.getD a.range ≤ highestRange a.function := by
    have locked := fits.lock
    cases lock : s.ranging.lock with
    | none => exact range
    | some r =>
      rw [lock] at locked
      rw [function]
      exact of_decide_eq_true locked
  unfold State.takeSample
  dsimp only
  split
  next mean =>
    split
    · refine sound_goOnWith (s := s.withSeq _) b scan current ?_
      exact ⟨st, current, fits⟩
    · exact sound_deliver (s := s.withSeq _) b scan current (Record.lawful_of_measured rfl lockFits rfl rfl) noRange
        noChanges nofun
  next each =>
    refine sound_deliver b scan current (Record.lawful_of_measured rfl range rfl rfl) noRange noChanges fun _ => ?_
    exact Option.not_isSome_iff_eq_none.1 (mt fits.mean each)

/-- The range of a sample, 0 where none is held, is one of its function. -/
theorem RangingFits.sampleRange_le {g : Ranging} {t : Vector Channel 24} {st : Step} (fits : RangingFits g t st) :
    g.sampleRange.getD 0 ≤ highestRange t[st.channel].function := by
  have range := fits.range
  cases held : g.sampleRange with
  | none => exact Nat.zero_le _
  | some r =>
    rw [held] at range
    exact of_decide_eq_true range

/-- A channel that remembers a range of its function keeps the table lawful, with the functions as they were (R67). -/
theorem Stock.remember {t : Vector Channel 24} {l : List Queued} (stock : Stock t l) {n : Fin 24} {r : Nat}
    (range : r ≤ highestRange t[n].function) :
    Stock (t.set n { t[n] with remembered := r }) l
      ∧ ∀ m : Fin 24, (t.set n { t[n] with remembered := r })[m].function = t[m].function := by
  obtain ⟨fits, settle, window, -⟩ := stock.channels n
  have rewritten (m : Fin 24) := forall_get_set (p := fun m c => ChannelLaw c ∧ c.function = t[m].function)
    (fun m => ⟨stock.channels m, rfl⟩) n (c := { t[n] with remembered := r }) ⟨⟨fits, settle, window, range⟩, rfl⟩ m
  exact ⟨⟨fun m => (rewritten m).1, stock.room, stock.records⟩, fun m => (rewritten m).2⟩

/-- After an acceptance range control holds at most the step lock of a MEAN step (R66, R68). -/
theorem RangingFits.relock {g : Ranging} {t : Vector Channel 24} {st : Step} (fits : RangingFits g t st) (auto : Bool) :
    RangingFits ⟨none, 0, if auto && st.mean then some (g.lock.getD (g.sampleRange.getD 0)) else g.lock⟩ t st := by
  refine ⟨Nat.zero_le _, rfl, ?_, ?_⟩
  · dsimp only
    split
    · cases lock : g.lock with
      | none => exact decide_eq_true fits.sampleRange_le
      | some r => exact lock ▸ fits.lock
    · exact fits.lock
  · dsimp only
    split
    next both => exact fun _ => (Bool.and_eq_true_iff.1 both).2
    next => exact fits.mean

/-- Range control accepts the outcome of a conversion of the step (R66 to R68). -/
theorem sound_acceptOutcome {s : State} {st : Step} {hunt : Bool} {o : ConvOutcome} (b : Between s)
    (scan : s.seq.scan = .running ∨ s.seq.scan = .pausing) (current : s.currentStep = some st)
    (function : o.function = s.table[st.channel].function) (fits : RangingFits s.ranging s.table st) :
    Sound (s.acceptOutcome st hunt o) := by
  obtain ⟨stock, conv, shape, rail, staged⟩ := b
  have range := fits.sampleRange_le
  have locked := fits.relock (decide (s.table[st.channel].range = .auto))
  unfold State.acceptOutcome
  dsimp only
  split
  · obtain ⟨stock', functions⟩ := stock.remember range
    refine sound_takeSample (s := (s.setChannel _ _).withRanging _) ⟨stock', conv, shape, rail, staged⟩ scan current
      (function.trans (functions _).symm) ?_ (locked.congr (functions _)) rfl rfl
    rwa [function]
  · refine sound_takeSample (s := s.withRanging _) ⟨stock, conv, shape, rail, staged⟩ scan current function ?_ locked
      rfl rfl
    rwa [function]

/-- The range that R62's table wants is one of the function. -/
theorem wantedRange_le {o : ConvOutcome} {r w : Nat} (h : wantedRange o r = some w) (range : r ≤ highestRange o.function) :
    w ≤ highestRange o.function := by
  unfold wantedRange at h
  split at h
  · split at h <;> cases h
    next below => exact below
  · split at h <;> cases h
    next => omega

/-- Range control accepts the outcome, or makes one of at most four changes (R61 to R65, R69). -/
theorem sound_judge {s : State} {st : Step} {o : ConvOutcome} (b : Between s)
    (scan : s.seq.scan = .running ∨ s.seq.scan = .pausing) (current : s.currentStep = some st)
    (function : o.function = s.table[st.channel].function) (fits : RangingFits s.ranging s.table st) :
    Sound (s.judge st o) := by
  unfold State.judge
  split
  · split
    · exact sound_acceptOutcome b scan current function fits
    next w wants =>
      split
      next => exact sound_acceptOutcome b scan current function fits
      next free =>
        obtain ⟨notPausing, few⟩ := not_or.1 free
        have range := fits.sampleRange_le
        rw [← function] at range
        refine sound_connect (s := s.withRanging _) _ b (scan.resolve_right notPausing) current
          ⟨Nat.lt_of_not_le few, ?_, fits.lock, fits.mean⟩
        rw [State.withRanging_table, ← function]
        exact decide_eq_true (wantedRange_le wants range)
  · exact sound_acceptOutcome b scan current function fits

/-- A conversion completes with an outcome of its own function (R35). -/
theorem sound_completeConversion {s : State} {o : ConvOutcome} (h : Sound s) (busy : s.conv.phase ≠ .idle)
    (function : o.function = s.conv.functionOr) : Sound (s.completeConversion o) := by
  obtain ⟨stock, place⟩ := h
  cases place with
  | converting st scan current _ isFunction shape _ rail staged fits =>
    have judged := sound_judge (s := s.abortConversion) (st := st) (o := o) ⟨stock, rfl, shape, rail, staged⟩ scan current
      (function.trans (Converter.functionOr_of_function isFunction)) fits
    have current' : s.abortConversion.currentStep = some st := current
    have takes : s.abortConversion.takeOutcome o = s.abortConversion.judge st o := by
      unfold State.takeOutcome
      rw [current']
      rcases scan with scan | scan <;> (rw [State.abortConversion_eq, State.withConv_seq, scan])
    rw [State.completeConversion, takes]
    exact judged
  | idle _ conv | armed _ conv | connecting _ _ _ conv | held _ _ _ _ conv | pausedToArmed _ _ conv
  | pausedWithin _ _ _ _ _ conv | faulted _ conv => exact absurd (by rw [conv]; rfl) busy

end Sys2Proof.Machine
end

section
namespace Sys2Proof.Machine

/-! PROOFS. The requests and the events on shapes: what each does to the place of the scan. -/

/-! ## What no place looks at -/

/-- The second state agrees with the first in everything that the place of the scan looks at. -/
structure SamePlace (s t : State) : Prop where
  conv : t.conv = s.conv
  matrix : t.matrix = s.matrix
  rail : t.rail = s.rail
  ranging : t.ranging = s.ranging
  list : t.list = s.list
  table : t.table = s.table
  queue : t.queue = s.queue
  scan : t.seq.scan = s.seq.scan
  step : t.seq.step = s.seq.step
  cont : t.seq.cont = s.seq.cont
  resume : t.seq.resume = s.seq.resume

theorem SamePlace.sound {s t : State} (same : SamePlace s t) (h : Sound s) : Sound t := by
  obtain ⟨conv, matrix, rail, ranging, list, table, queue, scan, step, cont, resume⟩ := same
  rw [sound_iff] at h ⊢
  unfold ScanLaws QueueLaw PathLaw ConverterLaw MatrixLaw RailLaw PausingLaw ProgressLaw RangeLaw RecordsLaw
    State.withinPass State.sampleInProgress State.currentStep at *
  rw [conv, matrix, rail, ranging, list, table, queue, scan, step, cont, resume]
  exact h

/-- Pins, settings, limit monitor, events, stream, link and waiting commands may be any: no place looks at them. -/
theorem Sound.around {s : State} (h : Sound s) {p : Pins} {z : Settings} {x : LimitMonitor} {e : EventTable} {y : Stream}
    {l : Link} {w : List Instr} :
    Sound { s with pins := p, settings := z, limit := x, events := e, stream := y, link := l, pending := w } :=
  SamePlace.sound (s := s) ⟨rfl, rfl, rfl, rfl, rfl, rfl, rfl, rfl, rfl, rfl, rfl⟩ h

/-- A queue that is empty in the slot where the old one is, and whose slot waits where the old one does. -/
theorem Place.requeue {s : State} {q : ResultQueue} (h : Place s) (empty : s.queue.staged = none → q.staged = none)
    (waits : StagedWaits s.queue → StagedWaits q) : Place (s.withQueue q) := by
  cases h with
  | idle scan conv matrix rail staged ranging => exact .idle scan conv matrix rail (empty staged) ranging
  | armed scan conv matrix rail staged ranging => exact .armed scan conv matrix rail (empty staged) ranging
  | connecting st scan current conv shape phase rail staged fits =>
    exact .connecting st scan current conv shape phase rail (empty staged) fits
  | converting st scan current busy function shape phase rail staged fits =>
    exact .converting st scan current busy function shape phase rail (empty staged) fits
  | held st scan current cont conv shape rail staged ranging =>
    exact .held st scan current cont conv shape rail (waits staged) ranging
  | pausedToArmed scan resume conv matrix rail staged ranging =>
    exact .pausedToArmed scan resume conv matrix rail (empty staged) ranging
  | pausedWithin st c scan resume current conv matrix rail staged ranging =>
    exact .pausedWithin st c scan resume current conv matrix rail (waits staged)
      (ranging.imp_right fun ⟨sampling, vacant, fits⟩ => ⟨sampling, empty vacant, fits⟩)
  | faulted scan conv matrix rail staged ranging => exact .faulted scan conv matrix rail (waits staged) ranging

/-- A staged record waits for a full list in every place (R110). -/
theorem Sound.slot {s : State} (h : Sound s) : StagedWaits s.queue := fun r hr =>
  ⟨h.recordsLaw.2 r hr, (h.queueLaw.2 (Option.isSome_of_mem hr)).1⟩

/-- The sent marks of the records are no matter of the place (R125). -/
theorem Sound.remarked {s : State} {q : ResultQueue} (h : Sound s) (staged : q.staged = s.queue.staged)
    (records : q.list.map (·.record) = s.queue.list.map (·.record)) : Sound (s.withQueue q) := by
  have length : q.list.length = s.queue.list.length := by simpa using congrArg List.length records
  obtain ⟨⟨channels, room, lawful⟩, place⟩ := h
  refine ⟨⟨channels, length.trans_le room, fun e he => ?_⟩, place.requeue (fun vacant => staged.trans vacant) fun waits => ?_⟩
  · have present : e.record ∈ s.queue.list.map (·.record) := records ▸ List.mem_map_of_mem he
    obtain ⟨e', he', same⟩ := List.mem_map.1 present
    exact same ▸ lawful e' he'
  · unfold StagedWaits at waits ⊢
    rwa [staged, length]

/-! ## Time and reset -/

theorem Rail.Waits.advance {r : Rail} (h : r.Waits) (n : Nat) : (r.advance n).Waits := by
  rcases h with rfl | ⟨t, rfl⟩
  · exact .inl rfl
  · exact .inr ⟨_, rfl⟩

theorem MatrixShape.advance {m : Matrix} (h : MatrixShape m) (n : Nat) : MatrixShape (m.advance n) := by
  obtain ⟨opened, rest⟩ := h
  refine ⟨fun phase => ?_, ?_⟩
  · rw [opened ((m.advance_phase n).symm.trans phase)]; rfl
  · simpa using rest

/-- Time keeps every place (R22, R40, R50, R80). -/
theorem sound_advance {s : State} (n : Nat) (h : Sound s) : Sound (s.advance n) := by
  obtain ⟨stock, place⟩ := h
  have conv (idle : s.conv = .idle) : (s.advance n).conv = .idle := by rw [State.advance_conv, idle]; rfl
  have matrix (opened : s.matrix = .opened) : (s.advance n).matrix = .opened := by
    rw [State.advance_matrix, opened]; rfl
  have railOn (on : s.rail = .on) : (s.advance n).rail = .on := by rw [State.advance_rail, on]; rfl
  have scan : (s.advance n).seq.scan = s.seq.scan := Sequencer.advance_scan _ _ _
  have phase : (s.advance n).matrix.phase = s.matrix.phase := Matrix.advance_phase _ _
  have current : (s.advance n).currentStep = s.currentStep := s.currentStep_advance n
  refine ⟨stock, ?_⟩
  cases place with
  | idle isIdle rests opened rail staged ranging =>
    refine .idle (scan.trans isIdle) (conv rests) (matrix opened) ?_ staged ranging
    rcases rail with rail | ⟨t, rail⟩ <;> rw [State.advance_rail, rail]
    · exact .inl rfl
    · exact .inr ⟨_, rfl⟩
  | armed isArmed rests opened rail staged ranging =>
    exact .armed (scan.trans isArmed) (conv rests) (matrix opened) (rail.advance n) staged ranging
  | connecting st running at_ rests shape breaks rail staged fits =>
    exact .connecting st (scan.trans running) (current.trans at_) (conv rests) (shape.advance n) (by rwa [phase])
      (railOn rail) staged fits
  | converting st measures at_ busy function shape connected rail staged fits =>
    exact .converting st (by rwa [scan]) (current.trans at_)
      (by rwa [State.advance_conv, Converter.advance_phase])
      (by rwa [State.advance_conv, Converter.advance_function]) (shape.advance n) (phase.trans connected)
      (railOn rail) staged fits
  | held st isHeld at_ cont rests shape rail staged ranging =>
    exact .held st (scan.trans isHeld) (current.trans at_) (by rwa [State.advance_seq, Sequencer.advance_cont])
      (conv rests) (shape.advance n) (railOn rail) staged ranging
  | pausedToArmed isPaused resume rests opened rail staged ranging =>
    exact .pausedToArmed (scan.trans isPaused) ((Sequencer.advance_resume _ _ _).trans resume) (conv rests)
      (matrix opened) (rail.advance n) staged ranging
  | pausedWithin st c isPaused resume at_ rests opened rail staged ranging =>
    exact .pausedWithin st c (scan.trans isPaused) ((Sequencer.advance_resume _ _ _).trans resume)
      (current.trans at_) (conv rests) (matrix opened) (railOn rail) staged ranging
  | faulted isFaulted rests opened rail staged ranging =>
    obtain ⟨cause, rail⟩ := rail
    exact .faulted (scan.trans isFaulted) (conv rests) (matrix opened)
      ⟨cause, by rw [State.advance_rail, rail]; rfl⟩ staged ranging

/-- Every block of a part in reset stands in its place (R190). -/
theorem sound_resetWith (s : State) (p : Pins) : Sound (s.resetWith p) := by
  obtain ⟨-, -, -, -, queue, -, path, progress, range, records⟩ := lawful_reset
  exact (sound_iff _).2 ⟨queue, path, progress, range, records⟩

end Sys2Proof.Machine
end

section
namespace Sys2Proof.Machine

/-! PROOFS. The requests on shapes. -/

/-! ## The end of a hold, and removals from the list (R94, R116) -/

/-- A HELD scan whose slot has drained goes on (R94). -/
theorem sound_holdOver {s : State} (h : Sound s) (drained : s.queue.staged = none) : Sound s.holdOver := by
  have stays (other : s.seq.scan ≠ .held) : s.holdOver = s := by
    unfold State.holdOver
    split
    · exact absurd ‹_› other
    · exact absurd ‹_› other
    all_goals rfl
  by_cases isHeld : s.seq.scan = .held
  · obtain ⟨stock, place⟩ := h
    cases place with
    | held st _ current cont conv shape rail _ ranging =>
      obtain ⟨c, cont⟩ := Option.isSome_iff_exists.1 cont
      have goesOn : s.holdOver = (s.withSeq { s.seq with scan := .running }).takeContinuation c := by
        rw [State.holdOver, isHeld, cont]
      rw [goesOn]
      exact sound_takeContinuation ⟨stock, conv, shape, rail, drained⟩ rfl (State.mayTake_of_dropped current ranging c)
    | idle scan | armed scan | connecting _ scan | pausedToArmed scan | pausedWithin _ _ scan | faulted scan =>
      cases scan.symm.trans isHeld
    | converting _ scan => rcases scan with scan | scan <;> cases scan.symm.trans isHeld
  · rwa [stays isHeld]

/-- A removal from the list drains an occupied slot, and a HELD scan goes on (R116). -/
theorem sound_drain {s : State} (h : Sound s) {l : List Queued} {x : Stream} {removed : Nat}
    (sub : l.Sublist s.queue.list) (count : l.length + removed = s.queue.list.length) :
    Sound (((s.withQueue { s.queue with list := l }).withStream x).drain removed) := by
  have stock := h.stock.sublist sub
  have kept (waits : StagedWaits { s.queue with list := l }) :
      Sound ((s.withQueue { s.queue with list := l }).withStream x) :=
    Sound.around (s := s.withQueue { s.queue with list := l }) ⟨stock, h.place.requeue id fun _ => waits⟩
  unfold State.drain
  dsimp only [State.withStream_queue, State.withQueue_queue]
  split
  next r staged =>
    obtain ⟨lawful, full⟩ := h.slot r staged
    split
    next some =>
      refine sound_holdOver (Sound.around (s := s.withQueue { s.queue with
        list := l ++ [{ record := r, sent := false }], staged := none }) ⟨stock.append lawful (by omega), ?_⟩) rfl
      exact h.place.requeue (fun _ => rfl) fun _ => stagedWaits_of_none rfl
    next none => exact kept fun x hx => ⟨(h.slot x hx).1, by dsimp only; omega⟩
  next staged => exact kept (stagedWaits_of_none staged)

theorem sound_runFetch (p : List Byte) {s : State} (h : Sound s) : Sound (runFetch p s).2 := by
  unfold runFetch
  split
  · exact h
  split
  · exact h
  split
  · exact h
  · refine sound_drain (x := s.stream) h (List.drop_sublist _ _) ?_
    simp only [State.fetched, List.length_map, List.length_take, List.length_drop]
    omega

theorem sound_acknowledge (a : Word16) {s : State} (h : Sound s) : Sound (s.acknowledge a) :=
  sound_drain h List.filter_sublist (Nat.add_sub_cancel' (List.length_filter_le _ _))

theorem sound_runAck (p : List Byte) {s : State} (h : Sound s) : Sound (runAck p s).2 := by
  unfold runAck
  split
  · exact h
  split
  · exact h
  split
  · exact sound_acknowledge _ h
  · split <;> exact h

/-! ## The stream and the reports -/

theorem sound_makeAllFresh {s : State} (h : Sound s) : Sound s.makeAllFresh :=
  Sound.around (s := s.withQueue { s.queue with list := s.queue.list.map fun e => { e with sent := false } })
    (h.remarked rfl (by simp [Function.comp_def]))

theorem sound_runStream (p : List Byte) {s : State} (h : Sound s) : Sound (runStream p s).2 := by
  have fresh (x : Stream) : Sound (s.makeAllFresh.withStream x) :=
    Sound.around (s := s.makeAllFresh) (sound_makeAllFresh h)
  unfold runStream
  split
  · exact h
  split
  · exact h
  split
  · exact fresh _
  · exact fresh _

theorem sound_composeResults {s : State} (h : Sound s) : Sound s.composeResults := by
  have same : (s.queue.list.take s.stream.inFlight ++ ((s.queue.list.drop s.stream.inFlight).take s.reportSize).map
      (fun e : Queued => { e with sent := true }) ++ s.queue.list.drop (s.stream.inFlight + s.reportSize)).map Queued.record
      = s.queue.list.map Queued.record := by
    have cut : s.queue.list = s.queue.list.take s.stream.inFlight
        ++ ((s.queue.list.drop s.stream.inFlight).take s.reportSize
          ++ s.queue.list.drop (s.stream.inFlight + s.reportSize)) := by
      rw [← List.drop_drop, List.take_append_drop, List.take_append_drop]
    conv_rhs => rw [cut]
    simp only [List.map_append, List.map_map, List.append_assoc]
    rfl
  exact SamePlace.sound (s := s.withQueue { s.queue with list := _ })
    ⟨rfl, rfl, rfl, rfl, rfl, rfl, rfl, rfl, rfl, rfl, rfl⟩ (h.remarked rfl same)

/-! ## The channels (R101, R102) -/

/-- The state with a channel's record rewritten and the line brought up to date (R15, R16). -/
def State.rewritten (n : Fin 24) (c : Channel) (x : LimitMonitor) (s : State) : State :=
  (s.withTable (s.table.set n c)).withLimit x

/-- The step that a scan within a pass stands at is lawful to keep, to give up or to start again when its channel is
rewritten. -/
theorem sound_channelChanged {s : State} (h : Sound s) (n : Fin 24) {c : Channel} (lawful : ChannelLaw c)
    (x : LimitMonitor) : Sound ((s.rewritten n c x).channelChanged n) := by
  obtain ⟨stock, place⟩ := h
  have stock' : Stock (s.table.set n c) s.queue.list :=
    ⟨forall_get_set (p := fun _ c => ChannelLaw c) stock.channels n lawful, stock.room, stock.records⟩
  have function {st : Step} (hn : st.channel ≠ n) :
      (s.table.set n c)[st.channel].function = s.table[st.channel].function := by rw [get_set_of_ne (Ne.symm hn)]
  have away {st : Step} (current : s.currentStep = some st) (hn : st.channel ≠ n) :
      ∀ st' ∈ (s.rewritten n c x).currentStep, st'.channel ≠ n := by
    intro st' hst'
    obtain rfl := Option.some.inj (current.symm.trans hst')
    exact hn
  have restarts {st : Step} (current : s.currentStep = some st) (hn : st.channel = n) (scan : s.seq.scan = .running)
      (rail : s.rail = .on) (staged : s.queue.staged = none) :
      Sound ((s.rewritten n c x).channelChanged n) := by
    rw [State.channelChanged_running (s := s.rewritten n c x) current hn scan]
    exact sound_takeContinuation ⟨stock', rfl, matrixShape_opened, rail, staged⟩ scan rfl
  cases place with
  | idle scan conv matrix rail staged ranging =>
    rw [State.channelChanged_elsewhere (s := s.rewritten n c x) (.inl scan)]
    exact ⟨stock', .idle scan conv matrix rail staged ranging⟩
  | armed scan conv matrix rail staged ranging =>
    rw [State.channelChanged_elsewhere (s := s.rewritten n c x) (.inr (.inl scan))]
    exact ⟨stock', .armed scan conv matrix rail staged ranging⟩
  | faulted scan conv matrix rail staged ranging =>
    rw [State.channelChanged_elsewhere (s := s.rewritten n c x) (.inr (.inr (.inl scan)))]
    exact ⟨stock', .faulted scan conv matrix rail staged ranging⟩
  | pausedToArmed scan resume conv matrix rail staged ranging =>
    rw [State.channelChanged_elsewhere (s := s.rewritten n c x) (.inr (.inr (.inr (.inl ⟨scan, resume⟩))))]
    exact ⟨stock', .pausedToArmed scan resume conv matrix rail staged ranging⟩
  | connecting st scan current conv shape phase rail staged fits =>
    by_cases hn : st.channel = n
    · exact restarts current hn scan rail staged
    · rw [State.channelChanged_elsewhere (s := s.rewritten n c x) (.inr (.inr (.inr (.inr (away current hn)))))]
      exact ⟨stock', .connecting st scan current conv shape phase rail staged (fits.congr (function hn))⟩
  | converting st scan current busy isFunction shape phase rail staged fits =>
    by_cases hn : st.channel = n
    · rcases scan with running | pausing
      · exact restarts current hn running rail staged
      · rw [State.channelChanged_pausing (s := s.rewritten n c x) current hn pausing]
        exact ⟨stock', .pausedWithin st .redoStep rfl rfl current rfl rfl rail (stagedWaits_of_none staged) (.inl rfl)⟩
    · rw [State.channelChanged_elsewhere (s := s.rewritten n c x) (.inr (.inr (.inr (.inr (away current hn)))))]
      exact ⟨stock', .converting st scan current busy (isFunction.trans (congrArg some (function hn).symm)) shape phase
        rail staged (fits.congr (function hn))⟩
  | held st scan current cont conv shape rail staged ranging =>
    by_cases hn : st.channel = n
    · obtain ⟨k, hk⟩ := Option.isSome_iff_exists.1 cont
      cases unfinished : k.stepUnfinished with
      | true =>
        rw [State.channelChanged_held_unfinished (s := s.rewritten n c x) current hn scan hk unfinished]
        exact ⟨stock', .held st scan current rfl conv shape rail staged rfl⟩
      | false =>
        rw [State.channelChanged_held_complete (s := s.rewritten n c x) current hn scan hk unfinished]
        exact ⟨stock', .held st scan current cont conv shape rail staged ranging⟩
    · rw [State.channelChanged_elsewhere (s := s.rewritten n c x) (.inr (.inr (.inr (.inr (away current hn)))))]
      exact ⟨stock', .held st scan current cont conv shape rail staged ranging⟩
  | pausedWithin st k scan resume current conv matrix rail staged ranging =>
    by_cases hn : st.channel = n
    · cases unfinished : k.stepUnfinished with
      | true =>
        rw [State.channelChanged_paused_unfinished (s := s.rewritten n c x) current hn scan resume unfinished]
        exact ⟨stock', .pausedWithin st .redoStep scan rfl current conv matrix rail staged (.inl rfl)⟩
      | false =>
        rw [State.channelChanged_paused_complete (s := s.rewritten n c x) current hn scan resume unfinished]
        refine ⟨stock', .pausedWithin st k scan resume current conv matrix rail staged (.inl ?_)⟩
        refine ranging.resolve_right fun ⟨sampling, _⟩ => ?_
        cases k <;> cases sampling <;> cases unfinished
    · rw [State.channelChanged_elsewhere (s := s.rewritten n c x) (.inr (.inr (.inr (.inr (away current hn)))))]
      exact ⟨stock', .pausedWithin st k scan resume current conv matrix rail staged
        (ranging.imp_right fun ⟨sampling, vacant, fits⟩ => ⟨sampling, vacant, fits.congr (function hn)⟩)⟩

/-- The settings that a CHANNEL_SET's payload decodes to make a lawful record (R4, R7, R8, R15). -/
theorem channelLaw_record {p : List Byte} {c : ChannelSettings} (h : decodeChannelSettings p = some c) :
    ChannelLaw c.record := by
  unfold decodeChannelSettings at h
  split at h
  · cases h
  next f hf =>
    split at h
    next r m w hr hm hw =>
      split at h
      next settle =>
        cases h
        refine ⟨?_, settle, ?_, le_refl _⟩
        · unfold decodeRange at hr
          split at hr
          · cases hr; rfl
          · split at hr <;> cases hr
            next fits => exact decide_eq_true fits
        · unfold decodeWindow at hw
          split at hw
          · cases hw; rfl
          · dsimp only at hw
            split at hw <;> cases hw
            next legal => exact legal
          · cases hw
      · cases h
    · cases h

theorem sound_runChannelSet (p : List Byte) {s : State} (h : Sound s) : Sound (runChannelSet p s).2 := by
  unfold runChannelSet
  split
  · exact h
  split
  · exact h
  split
  · exact h
  next decoded => exact sound_channelChanged h _ (channelLaw_record decoded) _

theorem sound_runChannelOff (p : List Byte) {s : State} (h : Sound s) : Sound (runChannelOff p s).2 := by
  unfold runChannelOff
  split
  · exact h
  split
  · exact h
  next n _ =>
    exact sound_channelChanged (c := { s.table[n] with enabled := false }) h n (h.stock.channels n) s.limit

end Sys2Proof.Machine
end

section
namespace Sys2Proof.Machine

/-! PROOFS. The scan requests on shapes. -/

/-- Outside IDLE the rail is left OFF by a release, or in its hold time (R54). -/
theorem Place.release {s : State} (h : Place s) (active : s.seq.scan ≠ .idle) :
    s.rail.release = .off ∨ ∃ t, s.rail.release = { Rail.on with holdTimer := some t } := by
  cases h with
  | idle scan => exact absurd scan active
  | armed _ _ _ rail | pausedToArmed _ _ _ _ rail =>
    rcases rail with rail | ⟨t, rail⟩ <;> rw [rail]
    · exact .inr ⟨0, rfl⟩
    · exact .inl rfl
  | connecting _ _ _ _ _ _ rail | converting _ _ _ _ _ _ _ rail | held _ _ _ _ _ _ rail
  | pausedWithin _ _ _ _ _ _ _ rail => rw [rail]; exact .inr ⟨0, rfl⟩
  | faulted _ _ _ rail => obtain ⟨cause, rail⟩ := rail; rw [rail]; exact .inl rfl

/-- STOP semantics leave the scan IDLE in its place (R99). -/
theorem sound_stopScan {s : State} (h : Sound s) : Sound s.stopScan ∧ s.stopScan.seq.scan = .idle := by
  by_cases idle : s.seq.scan = .idle
  · rw [State.stopScan_of_idle idle]; exact ⟨h, idle⟩
  · rw [State.stopScan_eq idle]
    exact ⟨⟨h.stock, .idle rfl rfl rfl (h.place.release idle) rfl rfl⟩, rfl⟩

/-- What an IDLE scan's place is made of (R22, R40, R54, R59). -/
theorem Sound.idle {s : State} (h : Sound s) (scan : s.seq.scan = .idle) :
    s.conv = .idle ∧ s.matrix = .opened ∧ (s.rail = .off ∨ ∃ t, s.rail = { Rail.on with holdTimer := some t })
      ∧ s.queue.staged = none ∧ s.ranging = .dropped := by
  cases h.place with
  | idle _ conv matrix rail staged ranging => exact ⟨conv, matrix, rail, staged, ranging⟩
  | armed other | connecting _ other | held _ other | pausedToArmed other | pausedWithin _ _ other | faulted other =>
    cases other.symm.trans scan
  | converting _ other => rcases other with other | other <;> cases other.symm.trans scan

/-- RESTART's clears leave an IDLE scan in its place (R13, R188). -/
theorem sound_clearWork {s : State} (h : Sound s) (idle : s.seq.scan = .idle) : Sound s.clearWork := by
  obtain ⟨conv, matrix, rail, -, ranging⟩ := h.idle idle
  refine ⟨⟨fun n => ?_, Nat.zero_le _, fun e he => by cases he⟩, .idle idle conv matrix rail rfl ranging⟩
  obtain ⟨range, settle, window, -⟩ := h.stock.channels n
  have record : (mapTable Channel.restarted s.table)[n] = Channel.restarted s.table[n] := by
    rw [mapTable_eq_map]; simp
  show ChannelLaw (mapTable Channel.restarted s.table)[n]
  rw [record]
  exact ⟨range, settle, window, le_refl _⟩

theorem sound_runRestart (p : List Byte) {s : State} (h : Sound s) : Sound (runRestart p s).2 := by
  unfold runRestart
  split
  · exact h
  · exact sound_clearWork (sound_stopScan h).1 (sound_stopScan h).2

theorem sound_runStop (p : List Byte) {s : State} (h : Sound s) : Sound (runStop p s).2 := by
  unfold runStop
  split
  · exact h
  · exact (sound_stopScan h).1

/-- An IDLE scan stands where it is whatever its list (R73). -/
theorem sound_withList {s : State} (h : Sound s) (idle : s.seq.scan = .idle) (l : List Step) : Sound (s.withList l) := by
  obtain ⟨conv, matrix, rail, staged, ranging⟩ := h.idle idle
  exact ⟨h.stock, .idle idle conv matrix rail staged ranging⟩

theorem sound_runListClear (p : List Byte) {s : State} (h : Sound s) : Sound (runListClear p s).2 := by
  rcases runListClear_cases p s with same | ⟨idle, l, written⟩
  · rwa [same]
  · rw [written]; exact sound_withList h idle l

theorem sound_runListAppend (p : List Byte) {s : State} (h : Sound s) : Sound (runListAppend p s).2 := by
  rcases runListAppend_cases p s with same | ⟨idle, l, written⟩
  · rwa [same]
  · rw [written]; exact sound_withList h idle l

theorem sound_runScanSet (p : List Byte) {s : State} (h : Sound s) : Sound (runScanSet p s).2 := by
  rcases runScanSet_cases p s with same | ⟨-, c, written⟩
  · rwa [same]
  · rw [written]
    exact Sound.around (s := s) h

/-- START leaves the scan ARMED and the rail up or starting (R51, R81). -/
theorem sound_beginScan {s : State} (h : Sound s) (idle : s.seq.scan = .idle) : Sound s.beginScan := by
  obtain ⟨conv, matrix, rail, staged, ranging⟩ := h.idle idle
  refine ⟨h.stock, .armed rfl conv matrix ?_ staged ranging⟩
  show s.rail.start.Waits
  rcases rail with rail | ⟨t, rail⟩ <;> rw [rail]
  · exact .inr ⟨0, rfl⟩
  · exact .inl rfl

theorem sound_runStart (p : List Byte) {s : State} (h : Sound s) : Sound (runStart p s).2 := by
  unfold runStart
  split
  · exact h
  split
  · exact h
  next idle =>
    split
    · exact h
    · exact sound_beginScan h (not_not.1 idle)

/-- PAUSE stops a scan at once, or lets it finish its conversion (R95). -/
theorem sound_pauseScan {s t : State} (h : Sound s) (paused : s.pauseScan = some t) : Sound t := by
  obtain ⟨stock, place⟩ := h
  unfold State.pauseScan at paused
  cases place with
  | idle scan | faulted scan => rw [scan] at paused; cases paused
  | armed scan conv matrix rail staged ranging =>
    rw [scan] at paused
    cases paused
    exact ⟨stock, .pausedToArmed rfl rfl conv matrix rail staged ranging⟩
  | connecting st scan current conv shape phase rail staged fits =>
    rw [scan, conv] at paused
    cases paused
    exact ⟨stock, .pausedWithin st .measure rfl rfl current conv rfl rail (stagedWaits_of_none staged)
      (.inr ⟨rfl, staged, fits⟩)⟩
  | converting st scan current busy function shape phase rail staged fits =>
    rcases scan with scan | scan <;> rw [scan] at paused
    · dsimp only at paused
      rw [if_neg busy] at paused
      cases paused
      exact ⟨stock, .converting st (.inr rfl) current busy function shape phase rail staged fits⟩
    · cases paused
      exact ⟨stock, .converting st (.inr scan) current busy function shape phase rail staged fits⟩
  | held st scan current cont conv shape rail staged ranging =>
    rw [scan] at paused
    cases paused
    exact ⟨stock, .pausedWithin st _ rfl rfl current conv rfl rail staged (.inl ranging)⟩
  | pausedToArmed scan resume conv matrix rail staged ranging =>
    rw [scan] at paused
    cases paused
    exact ⟨stock, .pausedToArmed scan resume conv matrix rail staged ranging⟩
  | pausedWithin st c scan resume current conv matrix rail staged ranging =>
    rw [scan] at paused
    cases paused
    exact ⟨stock, .pausedWithin st c scan resume current conv matrix rail staged ranging⟩

theorem sound_runPause (p : List Byte) {s : State} (h : Sound s) : Sound (runPause p s).2 := by
  unfold runPause
  split
  · exact h
  split
  next paused => exact sound_pauseScan h paused
  next => exact h

/-- RESUME goes on from the resume point, or holds while the slot is occupied (R97). -/
theorem sound_resumeScan {s t : State} (h : Sound s) (resumed : s.resumeScan = some t) : Sound t := by
  obtain ⟨stock, place⟩ := h
  unfold State.resumeScan at resumed
  cases place with
  | idle scan | armed scan | held _ scan | faulted scan => rw [scan] at resumed; cases resumed
  | connecting st scan current conv shape phase rail staged fits =>
    rw [scan] at resumed
    cases resumed
    exact ⟨stock, .connecting st scan current conv shape phase rail staged fits⟩
  | converting st scan current busy function shape phase rail staged fits =>
    rcases scan with scan | scan <;> rw [scan] at resumed <;> cases resumed
    · exact ⟨stock, .converting st (.inl scan) current busy function shape phase rail staged fits⟩
    · exact ⟨stock, .converting st (.inl rfl) current busy function shape phase rail staged fits⟩
  | pausedToArmed scan resume conv matrix rail staged ranging =>
    rw [scan] at resumed
    cases resumed
    rw [State.resumePaused, staged, resume]
    exact ⟨stock, .armed rfl conv matrix rail staged ranging⟩
  | pausedWithin st c scan resume current conv matrix rail staged ranging =>
    rw [scan] at resumed
    cases resumed
    cases slot : s.queue.staged with
    | some r =>
      rw [State.resumePaused, slot, resume]
      refine ⟨stock, .held st rfl current rfl conv (matrix ▸ matrixShape_opened) rail staged (ranging.resolve_right ?_)⟩
      rintro ⟨-, vacant, -⟩
      cases slot.symm.trans vacant
    | none =>
      rw [State.resumePaused, slot, resume]
      refine sound_takeContinuation (s := s.withSeq _) ⟨stock, conv, matrix ▸ matrixShape_opened, rail, slot⟩ rfl ?_
      rcases ranging with ranging | ⟨sampling, -, fits⟩
      · exact State.mayTake_of_dropped (s := s.withSeq _) current ranging c
      · unfold State.MayTake
        rw [if_pos sampling]
        exact ⟨st, current, fits⟩

theorem sound_runResume (p : List Byte) {s : State} (h : Sound s) : Sound (runResume p s).2 := by
  unfold runResume
  split
  · exact h
  split
  next resumed => exact sound_resumeScan h resumed
  next => exact h

theorem sound_triggerLatch {s : State} (h : Sound s) : Sound s.triggerLatch := by
  refine SamePlace.sound (s := s) ?_ h
  unfold State.triggerLatch
  split
  · exact ⟨rfl, rfl, rfl, rfl, rfl, rfl, rfl, rfl, rfl, rfl, rfl⟩
  all_goals split <;> exact ⟨rfl, rfl, rfl, rfl, rfl, rfl, rfl, rfl, rfl, rfl, rfl⟩

theorem sound_runTrigger (p : List Byte) {s : State} (h : Sound s) : Sound (runTrigger p s).2 := by
  unfold runTrigger
  split
  · exact h
  · exact sound_triggerLatch h

end Sys2Proof.Machine
end

section
namespace Sys2Proof.Machine

/-! PROOFS. The reports, the characters and the timers on shapes, and every command and every step. -/

/-! ## What the places say of single blocks -/

/-- A rail that is STARTING is waited for before a pass (R51, R81). -/
theorem Sound.of_starting {s : State} (h : Sound s) (starting : s.rail.state = .starting) : Sound (s.withRail .on) := by
  obtain ⟨stock, place⟩ := h
  cases place with
  | idle _ _ _ rail =>
    rcases rail with rail | ⟨t, rail⟩ <;> rw [rail] at starting <;> cases starting
  | armed scan conv matrix _ staged ranging => exact ⟨stock, .armed scan conv matrix (.inl rfl) staged ranging⟩
  | pausedToArmed scan resume conv matrix _ staged ranging =>
    exact ⟨stock, .pausedToArmed scan resume conv matrix (.inl rfl) staged ranging⟩
  | connecting _ _ _ _ _ _ rail | converting _ _ _ _ _ _ _ rail | held _ _ _ _ _ _ rail
  | pausedWithin _ _ _ _ _ _ _ rail => rw [rail] at starting; cases starting
  | faulted _ _ _ rail => obtain ⟨cause, rail⟩ := rail; rw [rail] at starting; cases starting

/-- An ARMED scan whose rail is READY stands between two passes (R82). -/
theorem Sound.between_of_armed {s : State} (h : Sound s) (scan : s.seq.scan = .armed) (ready : s.rail.state = .ready) :
    Between s ∧ s.ranging = .dropped := by
  obtain ⟨stock, place⟩ := h
  cases place with
  | armed _ conv matrix rail staged ranging =>
    rcases rail with rail | ⟨t, rail⟩
    · exact ⟨⟨stock, conv, matrix ▸ matrixShape_opened, rail, staged⟩, ranging⟩
    · rw [rail] at ready; cases ready
  | idle other | connecting _ other | held _ other | pausedToArmed other | pausedWithin _ _ other | faulted other =>
    cases other.symm.trans scan
  | converting _ other => rcases other with other | other <;> cases other.symm.trans scan

/-! ## The converter (R23, R35) -/

/-- A conversion that goes over to another phase stays one of the current step (R22). -/
theorem sound_rephase {s : State} {c : Converter} (h : Sound s) (was : s.conv.phase ≠ .idle) (busy : c.phase ≠ .idle)
    (function : c.function = s.conv.function) : Sound (s.withConv c) := by
  obtain ⟨stock, place⟩ := h
  cases place with
  | converting st scan current _ isFunction shape phase rail staged fits =>
    exact ⟨stock, .converting st scan current busy (function.trans isFunction) shape phase rail staged fits⟩
  | idle _ conv | armed _ conv | connecting _ _ _ conv | held _ _ _ _ conv | pausedToArmed _ _ conv
  | pausedWithin _ _ _ _ _ conv | faulted _ conv => exact absurd (by rw [conv]; rfl) was

theorem State.advance_busy {s : State} (n : Nat) (h : s.conv.phase ≠ .idle) : (s.advance n).conv.phase ≠ .idle := by
  rwa [State.advance_conv, Converter.advance_phase]

theorem sound_endZero {s : State} (h : Sound s) : Sound s.endZero := by
  unfold State.endZero
  split
  next zero =>
    exact sound_rephase (sound_advance _ h) (State.advance_busy _ (by rw [zero]; decide)) nofun rfl
  next => exact h

theorem sound_endIntegrate (input : MeanInput) {s : State} (h : Sound s) : Sound (s.endIntegrate input) := by
  unfold State.endIntegrate
  split
  next integrate =>
    exact sound_rephase (sound_advance _ h) (State.advance_busy _ (by rw [integrate]; decide)) nofun rfl
  next => exact h

/-- A conversion ends some time later with an outcome of its function (R35). -/
theorem sound_completeConversion_later (n : Nat) {s : State} {o : ConvOutcome} (h : Sound s)
    (deintegrates : s.conv.phase = .deintegrate) (function : o.function = s.conv.functionOr) :
    Sound ((s.advance n).completeConversion o) := by
  refine sound_completeConversion (sound_advance n h) (State.advance_busy n (by rw [deintegrates]; decide)) ?_
  rw [function, Converter.functionOr, Converter.functionOr, State.advance_conv, Converter.advance_function]

theorem sound_crossThreshold {s : State} (h : Sound s) : Sound s.crossThreshold := by
  unfold State.crossThreshold
  split
  next deintegrates _ => exact sound_completeConversion_later _ h deintegrates rfl
  all_goals exact h

theorem sound_reachLimit {s : State} (h : Sound s) : Sound s.reachLimit := by
  unfold State.reachLimit
  split
  next deintegrates _ => exact sound_completeConversion_later _ h deintegrates rfl
  all_goals exact h

/-! ## The matrix (R40, R44) -/

theorem matrixShape_settleOn (t : Target) : MatrixShape (.settleOn t) := by
  simp [MatrixShape, Matrix.settleOn, beq_eq_decide]

/-- BREAK goes over to SETTLE in the same place (R44). -/
theorem sound_settleOn (t : Target) {s : State} (h : Sound s) (breaks : s.matrix.phase = .breaking) :
    Sound (s.withMatrix (.settleOn t)) := by
  obtain ⟨stock, place⟩ := h
  cases place with
  | connecting st scan current conv _ _ rail staged fits =>
    exact ⟨stock, .connecting st scan current conv (matrixShape_settleOn t) (.inr rfl) rail staged fits⟩
  | held st scan current cont conv _ rail staged ranging =>
    exact ⟨stock, .held st scan current cont conv (matrixShape_settleOn t) rail staged ranging⟩
  | converting _ _ _ _ _ _ connected => cases connected.symm.trans breaks
  | idle _ _ opened | armed _ _ opened | pausedToArmed _ _ _ opened | pausedWithin _ _ _ _ _ _ opened
  | faulted _ _ opened => rw [opened] at breaks; cases breaks

/-- A connection that is made starts the conversion of a RUNNING scan; a HELD scan stays HELD (R24, R25, R44). -/
theorem sound_connected {s : State} {m : Matrix} (h : Sound s) (settles : s.matrix.phase = .settling)
    (shape : MatrixShape m) (connected : m.phase = .connected) : Sound (s.withMatrix m).startConversion := by
  obtain ⟨stock, place⟩ := h
  cases place with
  | connecting st scan current conv _ _ rail staged fits =>
    rw [State.startConversion_of_ready (s := s.withMatrix m) (by rw [State.withMatrix_conv, conv]; rfl) connected current
      (.inl scan)]
    exact ⟨stock, .converting st (.inl scan) current (by simp [State.startedOn]) rfl shape connected rail staged fits⟩
  | held st scan current cont conv _ rail staged ranging =>
    rw [State.startConversion_of_not (s := s.withMatrix m) (.inr (.inr (by simp [scan])))]
    exact ⟨stock, .held st scan current cont conv shape rail staged ranging⟩
  | converting _ _ _ _ _ _ other => cases other.symm.trans settles
  | idle _ _ opened | armed _ _ opened | pausedToArmed _ _ _ opened | pausedWithin _ _ _ _ _ _ opened
  | faulted _ _ opened => rw [opened] at settles; cases settles

theorem sound_settled {s : State} (h : Sound s) (settles : s.matrix.phase = .settling) : Sound s.settled := by
  obtain ⟨⟨-, -, closed⟩, -⟩ := h.matrixLaw
  exact sound_connected h settles ⟨nofun, nofun, fun _ => closed (.inl settles)⟩ rfl

theorem sound_endBreak {s : State} (h : Sound s) : Sound s.endBreak := by
  unfold State.endBreak
  split
  next t breaks _ =>
    have settling := sound_settleOn t (sound_advance (Config.breakTicks - s.matrix.timer) h)
      (by rwa [State.advance_matrix, Matrix.advance_phase])
    dsimp only
    split
    · exact sound_settled settling rfl
    · exact settling
  all_goals exact h

theorem sound_endSettle {s : State} (h : Sound s) : Sound s.endSettle := by
  unfold State.endSettle
  split
  next settles => exact sound_settled (sound_advance _ h) (by rwa [State.advance_matrix, Matrix.advance_phase])
  all_goals exact h

/-! ## The rail (R50 to R56) -/

/-- A rail fault leaves an IDLE scan IDLE and any other FAULTED (R55, R98). -/
theorem sound_railFault (cause : RailCause) {s : State} (h : Sound s) : Sound (s.railFault cause) := by
  unfold State.railFault
  dsimp only
  split
  next idle =>
    obtain ⟨-, -, -, staged, ranging⟩ := h.idle idle
    exact ⟨h.stock, .idle idle rfl rfl (.inl rfl) staged ranging⟩
  all_goals exact ⟨h.stock, .faulted rfl rfl rfl ⟨cause, rfl⟩ h.slot rfl⟩

theorem sound_railInside {s : State} (h : Sound s) : Sound s.railInside := by
  unfold State.railInside
  split
  next starting =>
    obtain ⟨-, cause, hold, -⟩ := h.railLaw
    have on : { s.rail with state := .ready, startTimer := none } = Rail.on :=
      Rail.eq_mk rfl rfl (none_of_iff hold (by simp [starting])) (none_of_iff cause (by simp [starting]))
    rw [on]
    exact h.of_starting starting
  all_goals exact h

theorem sound_railTimeout {s : State} (h : Sound s) : Sound s.railTimeout := by
  unfold State.railTimeout
  split
  case h_1 => exact sound_railFault _ (sound_advance _ h)
  all_goals exact h

theorem sound_railDrop {s : State} (h : Sound s) : Sound s.railDrop := by
  unfold State.railDrop
  split
  case h_1 => exact sound_railFault _ h
  all_goals exact h

/-- Only an IDLE scan's rail is in its hold time, and goes OFF at its end (R54). -/
theorem sound_holdEnds {s : State} (h : Sound s) : Sound s.holdEnds := by
  unfold State.holdEnds
  split
  next t _ holds =>
    obtain ⟨-, -, hold, -⟩ := h.railLaw
    have later := sound_advance (Config.holdTicks - t) h
    have idle : (s.advance (Config.holdTicks - t)).seq.scan = .idle := by
      rw [State.advance_seq, Sequencer.advance_scan]
      exact (hold.1 (by rw [holds]; rfl)).2
    obtain ⟨conv, matrix, -, staged, ranging⟩ := later.idle idle
    exact ⟨later.stock, .idle idle conv matrix (.inl rfl) staged ranging⟩
  all_goals exact h

/-! ## The pace, the clock and the stream's timer (R80, R82 to R84, R134) -/

theorem sound_startPass {s : State} (h : Sound s) : Sound s.startPass := by
  unfold State.startPass
  split
  next starts =>
    obtain ⟨scan, ready, -⟩ := starts
    obtain ⟨between, ranging⟩ := h.between_of_armed scan ready
    exact sound_takeContinuation (s := s.withSeq _) between rfl ranging
  next => exact h

theorem sound_latePass {s : State} (h : Sound s) : Sound s.latePass := by
  unfold State.latePass
  split
  · exact h
  · exact h.around

theorem sound_paceDue (g : Nat) {s : State} (h : Sound s) : Sound (s.paceDue g) :=
  SamePlace.sound (s := s.advance (s.settings.intervalTicks - g))
    ⟨rfl, rfl, rfl, rfl, rfl, rfl, rfl, rfl, rfl, rfl, rfl⟩ (sound_advance _ h)

theorem sound_paceExpiry {s : State} (h : Sound s) : Sound s.paceExpiry := by
  cases runs : s.seq.paceTimer with
  | none => rwa [State.paceExpiry_of_stopped runs]
  | some g =>
    have due := sound_paceDue g h
    cases inside : s.withinPass with
    | true => rw [State.paceExpiry_within_pass runs inside]; exact sound_latePass due
    | false => rwa [State.paceExpiry_between_passes runs inside]

theorem sound_clockWrap {s : State} (h : Sound s) : Sound s.clockWrap := by
  unfold State.clockWrap
  split
  · exact h
  all_goals exact sound_advance _ h

theorem sound_retransmit {s : State} (h : Sound s) : Sound s.retransmit := by
  unfold State.retransmit
  split
  · exact h
  next t _ =>
    have later := sound_advance (Config.retransmitTicks - t) h
    dsimp only
    split
    · exact later.around
    · exact later.around

/-! ## The link's commands -/

theorem sound_answerUnknownKind {s : State} (h : Sound s) : Sound s.answerUnknownKind := by
  unfold State.answerUnknownKind
  split
  · split
    · exact h
    · exact h.around
  · exact h

theorem sound_answerBadToken {s : State} (h : Sound s) : Sound s.answerBadToken := by
  unfold State.answerBadToken
  split
  · split
    · exact h.around
    · exact h
  · exact h

theorem sound_answerRepeat {s : State} (h : Sound s) : Sound s.answerRepeat := by
  unfold State.answerRepeat
  split
  · split
    · split
      · exact h.around
      · exact h
    · exact h
  · exact h

theorem sound_gapExpiry {s : State} (h : Sound s) : Sound s.gapExpiry := by
  unfold State.gapExpiry
  split
  · exact (sound_advance _ h).around
  · exact h

theorem sound_sendOldestReply {s : State} (h : Sound s) : Sound s.sendOldestReply := by
  unfold State.sendOldestReply
  split
  case h_1 => exact h.around
  all_goals exact h

theorem sound_sendEventReport {s : State} (h : Sound s) : Sound s.sendEventReport := by
  unfold State.sendEventReport
  split
  case h_1 => exact h.around
  all_goals exact h

theorem sound_sendResultReport {s : State} (h : Sound s) : Sound s.sendResultReport := by
  unfold State.sendResultReport
  split
  case h_1 =>
    split
    · exact sound_composeResults h
    · exact h
  all_goals exact h

/-! ## The requests that leave the scan alone -/

theorem sound_runIdentify (p : List Byte) {s : State} (h : Sound s) : Sound (runIdentify p s).2 := by
  unfold runIdentify
  split <;> exact h

theorem sound_runStatus (p : List Byte) {s : State} (h : Sound s) : Sound (runStatus p s).2 := by
  unfold runStatus
  split <;> exact h

theorem sound_runChannelGet (p : List Byte) {s : State} (h : Sound s) : Sound (runChannelGet p s).2 := by
  unfold runChannelGet
  split
  · exact h
  split <;> exact h

theorem sound_runListRead (p : List Byte) {s : State} (h : Sound s) : Sound (runListRead p s).2 := by
  unfold runListRead
  split
  · exact h
  split <;> exact h

theorem sound_runEvents (p : List Byte) {s : State} (h : Sound s) : Sound (runEvents p s).2 := by
  unfold runEvents
  split
  · exact h
  split
  · exact h
  · exact h.around

theorem sound_runSubscribe (p : List Byte) {s : State} (h : Sound s) : Sound (runSubscribe p s).2 := by
  unfold runSubscribe
  split
  · exact h
  split
  · exact h
  · exact h.around

theorem sound_runTripControl (p : List Byte) {s : State} (h : Sound s) : Sound (runTripControl p s).2 := by
  unfold runTripControl
  split
  · exact h
  split
  case h_4 => exact h
  all_goals exact h.around

/-- A row of a request that keeps the shapes keeps them. -/
theorem sound_of_row {s t : State} {kind : Byte} {row : List Byte → Bool} {run : List Byte → State → Execution}
    (effect : whileLive s (State.serve kind row run) = .next t) (hrun : ∀ p {u}, Sound u → Sound (run p u).2)
    (h : Sound s) : Sound t := by
  rcases row_cases effect with rfl | ⟨f, rest, rfl⟩
  · exact h
  · exact (hrun f.payload (u := s.leaveInbound rest) h.around).around

/-! ## Every command and every step -/

theorem sound_exec {s t : State} {c : Instr} (effect : exec c s = .next t) (h : Sound s) : Sound t := by
  cases c with
  | identify => exact sound_of_row effect sound_runIdentify h
  | status => exact sound_of_row effect sound_runStatus h
  | restart => exact sound_of_row effect sound_runRestart h
  | channelSet => exact sound_of_row effect sound_runChannelSet h
  | channelGet => exact sound_of_row effect sound_runChannelGet h
  | channelOff => exact sound_of_row effect sound_runChannelOff h
  | listClear => exact sound_of_row effect sound_runListClear h
  | listAppend => exact sound_of_row effect sound_runListAppend h
  | listRead => exact sound_of_row effect sound_runListRead h
  | scanSet => exact sound_of_row effect sound_runScanSet h
  | start => exact sound_of_row effect sound_runStart h
  | stop => exact sound_of_row effect sound_runStop h
  | pause => exact sound_of_row effect sound_runPause h
  | resume => exact sound_of_row effect sound_runResume h
  | trigger => exact sound_of_row effect sound_runTrigger h
  | fetch => exact sound_of_row effect sound_runFetch h
  | streamOn | streamOff => exact sound_of_row effect sound_runStream h
  | ack => exact sound_of_row effect sound_runAck h
  | events => exact sound_of_row effect sound_runEvents h
  | subscribe => exact sound_of_row effect sound_runSubscribe h
  | modeFollow | modeLatched | clearLatch => exact sound_of_row effect sound_runTripControl h
  | unknownKind => exact keeps_of_effect effect sound_answerUnknownKind h
  | badToken => exact keeps_of_effect effect sound_answerBadToken h
  | repeatCacheMatch => exact keeps_of_effect effect sound_answerRepeat h
  | goodCharacter b => exact keeps_of_effect (f := fun u => u.withLink (u.link.character b)) effect (·.around) h
  | damagedCharacter => exact keeps_of_effect (f := fun u => u.withLink u.link.damaged) effect (·.around) h
  | gapTimerExpiry => exact keeps_of_effect effect sound_gapExpiry h
  | sendReply => exact keeps_of_effect effect sound_sendOldestReply h
  | eventReport => exact keeps_of_effect effect sound_sendEventReport h
  | resultReport => exact keeps_of_effect effect sound_sendResultReport h
  | frameSent => exact keeps_of_effect (f := fun u => u.withLink { u.link with sending := none }) effect (·.around) h
  | resetNLow r1 r0 => rw [← Host.Outcome.next.inj effect]; exact sound_resetWith s _
  | resetNHigh =>
    rw [← Host.Outcome.next.inj effect]
    split
    · exact sound_resetWith s _
    · exact h
  | powerUp r1 r0 => rw [← Host.Outcome.next.inj effect]; exact sound_resetWith s _
  | trigEdge => exact keeps_of_effect effect sound_triggerLatch h
  | zeroEnd => exact keeps_of_effect effect sound_endZero h
  | integrateEnd input => exact keeps_of_effect effect (sound_endIntegrate input) h
  | deintegrateCrossing => exact keeps_of_effect effect sound_crossThreshold h
  | deintegrateLimit => exact keeps_of_effect effect sound_reachLimit h
  | breakEnd => exact keeps_of_effect effect sound_endBreak h
  | settleEnd => exact keeps_of_effect effect sound_endSettle h
  | railInsideWindow => exact keeps_of_effect effect sound_railInside h
  | startTimeout => exact keeps_of_effect effect sound_railTimeout h
  | drop => exact keeps_of_effect effect sound_railDrop h
  | holdExpiry => exact keeps_of_effect effect sound_holdEnds h
  | passStart => exact keeps_of_effect effect sound_startPass h
  | paceTimerExpiry => exact keeps_of_effect effect sound_paceExpiry h
  | scanClockWrap => exact keeps_of_effect effect sound_clockWrap h
  | retransmitExpiry => exact keeps_of_effect effect sound_retransmit h

theorem sound_step {s t : State} (effect : step s = .next t) (h : Sound s) : Sound t := by
  unfold step at effect
  split at effect
  · rw [← Host.Outcome.next.inj effect, State.tick]
    split
    · exact h
    · exact sound_advance 1 h
  · exact sound_exec effect h.around

/-- The laws of the scan and its blocks are kept by every step. -/
theorem scanLaws_step {s t : State} (effect : step s = .next t) (h : ScanLaws s) : ScanLaws t :=
  (sound_iff t).1 (sound_step effect ((sound_iff s).2 h))

/-- Settles O59: the laws of the list, the stream, the events, the line and the link block by block, those of the scan and
its path through the shapes of its states. -/
theorem stepKeepsEveryLaw : Obligations.StepKeepsEveryLaw := by
  intro s t ⟨link, events, line, list, queue, stream, path, progress, range, records⟩ cache replies effect
  obtain ⟨queue', path', progress', range', records'⟩ :=
    scanLaws_step effect ⟨queue, path, progress, range, records⟩
  exact ⟨⟨linkLaw_keptByCommands.step effect link, eventLaw_keptByCommands.step effect events,
    lineLaw_keptByCommands.step effect line, listLaw_keptByCommands.step effect list, queue',
    streamLaw_keptByCommands.step effect stream, path', progress', range', records'⟩,
    cacheLaw_keptByCommands.step effect cache, replyLaw_keptByCommands.step effect replies⟩

end Sys2Proof.Machine
end

section
namespace Sys2Proof.Machine

/-! PROOFS. Taking a continuation (R78): the start of a sample on the connection in place or with a break, a skipped step
whatever its admission answers, and the end of the pass. -/

/-! ## Starting a sample (R60, R87, R88) -/

section
variable {s : State} {st : Step} {range : Nat}

/-- The steps from the position on begin with the current one. -/
theorem drop_of_currentStep (current : s.currentStep = some st) :
    s.list.drop s.seq.step = st :: s.list.drop (s.seq.step + 1) := by
  obtain ⟨inList, isStep⟩ := List.getElem?_eq_some_iff.1 current
  rw [List.drop_eq_getElem_cons inList, isStep]

/-- With the matrix connected on the sample's range the converter starts at once (R24, R43). -/
theorem State.beginSample_in_place (current : s.currentStep = some st) (rail : s.rail.state = .ready)
    (idle : s.conv.phase = .idle) (scan : s.seq.scan = .running) (first : s.firstRange st = range)
    (connected : s.matrix.phase = .connected) (channel : s.matrix.channel = some st.channel)
    (selection : s.matrix.selection = some (s.table[st.channel].function, range)) :
    s.beginSample st = { s with
      seq := { s.seq with cont := some .measure }
      ranging := { sampleRange := some range, changes := 0, lock := s.ranging.lock }
      conv := s.startedOn st } := by
  rw [State.beginSample, first]
  dsimp only
  rw [State.connect_in_place, State.startConversion_of_ready (st := st)]
  · rfl
  · exact idle
  · exact connected
  · exact current
  · exact .inl scan
  · exact rail
  · exact connected
  · exact channel
  · exact selection

/-- With the matrix open or connected elsewhere it breaks to the step's channel on the sample's range (R42, R43). -/
theorem State.beginSample_breaks (rail : s.rail.state = .ready) (first : s.firstRange st = range)
    (moves : s.matrix.phase = .opened ∨ s.matrix.phase = .connected
      ∧ (s.matrix.channel ≠ some st.channel ∨ s.matrix.selection ≠ some (s.table[st.channel].function, range))) :
    s.beginSample st = { s with
      seq := { s.seq with cont := some .measure }
      ranging := { sampleRange := some range, changes := 0, lock := s.ranging.lock }
      matrix := s.breakingTo st range } := by
  rw [State.beginSample, first]
  rcases moves with opened | ⟨connected, other⟩
  · exact State.connect_of_opened rail opened
  · exact State.connect_elsewhere rail connected other

/-- The next sample and the start of a step whose channel is enabled begin a sample (R87, R88). -/
theorem State.takeContinuation_begins {c : Continuation} {sample : Nat} (current : s.currentStep = some st)
    (starts : c = .nextSample ∧ sample = s.seq.sample + 1
      ∨ c = .redoStep ∧ s.table[st.channel].enabled = true ∧ sample = 1) :
    s.takeContinuation c = (s.withSeq { s.seq with sample := sample }).beginSample st := by
  rcases starts with ⟨rfl, rfl⟩ | ⟨rfl, enabled, rfl⟩
  · rw [State.takeContinuation, current]
  · show startSteps (s.list.drop s.seq.step) s = _
    rw [drop_of_currentStep current, startSteps, if_pos enabled]

/-- The current sample is connected again on its saved range (R70). -/
theorem State.takeContinuation_measure (current : s.currentStep = some st)
    (saved : s.ranging.sampleRange = some range) (opened : s.matrix.phase = .opened) (rail : s.rail.state = .ready) :
    s.takeContinuation .measure = { s with
      seq := { s.seq with cont := some .measure }
      matrix := s.breakingTo st range } := by
  rw [State.takeContinuation, current, saved]
  exact State.connect_of_opened rail opened

end

/-! ## A skipped step (R87, R91) -/

/-- An admission leaves the sequencer as it was (R112 to R115). -/
@[simp] theorem State.admitRecord_seq (r : Record) (s : State) : (s.admitRecord r).2.seq = s.seq := by
  rcases s.admitRecord_cases r with ⟨-, h⟩ | ⟨-, -, h⟩ | ⟨-, h⟩ | ⟨_, -, -, -, h⟩ <;> rw [h] <;> rfl

/-- The record of a skipped step is numbered and admitted without evaluation (R145). -/
theorem State.produce_of_skipped_eq {draft : Record} (h : draft.flags.skipped = true) (s : State) :
    s.produce draft = (s.assign draft).2.admitRecord (s.assign draft).1 := by
  rw [State.produce, State.evaluate_of_skipped (r := (s.assign draft).1) h]

/-- A step that completes drops its lock and its accumulator, and raises its MARK where it has one (R91). -/
theorem State.completeStep_marks (st : Step) (s : State) : s.completeStep st = { s with
    ranging := { s.ranging with lock := none }
    seq := { s.seq with acc := .empty }
    events := if st.mark then s.events.raise .mark (BitVec.ofNat 16 s.seq.step) else s.events } := by
  rw [State.completeStep]
  dsimp only
  split <;> rfl

/-- No step is left behind the current one exactly where it is the list's last. -/
theorem isEmpty_drop_eq {α : Type} (l : List α) (n : Nat) {β : Type} (a b : β) :
    (if (l.drop (n + 1)).isEmpty then a else b) = if n + 1 < l.length then b else a := by
  by_cases h : n + 1 < l.length
  · rw [if_pos h, if_neg (by simpa using h)]
  · rw [if_neg h, if_pos (by simpa using h)]

/-- The SKIPPED record of a step is produced as its sample 0 (R87, R89). -/
def State.skip (st : Step) (s : State) : Admission × State :=
  (s.withSeq { s.seq with sample := 0 }).produce ((s.withSeq { s.seq with sample := 0 }).skippedRecord st)

/-- The SKIPPED record takes the next number and the redo mark, and is admitted without evaluation (R87, R89, R145). -/
theorem State.skip_eq (st : Step) (s : State) : s.skip st = ({ s with
    seq := { s.seq with sample := 0, redo := false }
    queue := { s.queue with nextSeq := s.queue.nextSeq + 1 } } : State).admitRecord {
      seq := s.queue.nextSeq, pass := s.seq.pass, step := s.seq.step, channel := st.channel, sample := 0,
      function := none, range := 0, count := 0, value := 0, time := s.seq.clockMs
      flags := { overrange := false, hunt := false, fast := false, mean := false, skipped := true,
                 redone := s.seq.redo, trip := false } } :=
  State.produce_of_skipped_eq rfl (s.withSeq { s.seq with sample := 0 })

section
variable {s v : State} {st : Step} {a : Admission}

/-- The record of a skipped step leaves the scan list as it was. -/
theorem State.list_of_skip (made : s.skip st = (a, v)) : v.list = s.list := by
  rw [show v = (a, v).2 from rfl, ← made]
  exact (State.produce_around _ _).list

/-- The record of a skipped step leaves the position at the step. -/
theorem State.step_of_skip (made : s.skip st = (a, v)) : v.seq.step = s.seq.step := by
  rw [show v = (a, v).2 from rfl, ← made, State.skip_eq, State.admitRecord_seq]

/-- A disabled step whose SKIPPED record was admitted completes, and the rest of the steps is started (R87, R91). -/
theorem startSteps_skipped {rest : List Step} (disabled : s.table[st.channel].enabled = false)
    (made : s.skip st = (.goOn, v)) :
    startSteps (st :: rest) s = startSteps rest
      ((v.completeStep st).withSeq { (v.completeStep st).seq with step := (v.completeStep st).seq.step + 1 }) := by
  rw [startSteps, if_neg (ne_true_of_eq_false disabled)]
  dsimp only
  rw [← State.skip, made]

/-- A disabled step whose SKIPPED record was staged completes, and the scan holds before what comes next (R87, R93). -/
theorem startSteps_staged {rest : List Step} (disabled : s.table[st.channel].enabled = false)
    (made : s.skip st = (.hold, v)) :
    startSteps (st :: rest) s = (v.completeStep st).enterHeld (if rest.isEmpty then .endPass else .nextStep) := by
  rw [startSteps, if_neg (ne_true_of_eq_false disabled)]
  dsimp only
  rw [← State.skip, made]

/-- A step whose channel is disabled gives its SKIPPED record and completes; then the next step or the end of the pass is
taken, or kept in HELD when the record was staged (R87, R91, R93). -/
theorem State.takeContinuation_redoStep_disabled (current : s.currentStep = some st)
    (disabled : s.table[st.channel].enabled = false) (made : s.skip st = (a, v)) :
    (a = .goOn → s.takeContinuation .redoStep
      = (v.completeStep st).takeContinuation (if s.seq.step + 1 < s.list.length then .nextStep else .endPass))
    ∧ (a = .hold → s.takeContinuation .redoStep
      = (v.completeStep st).enterHeld (if s.seq.step + 1 < s.list.length then .nextStep else .endPass)) := by
  have started : s.takeContinuation .redoStep = startSteps (st :: s.list.drop (s.seq.step + 1)) s :=
    congrArg (startSteps · s) (drop_of_currentStep current)
  have step : (v.completeStep st).seq.step = s.seq.step := by
    rw [State.completeStep_marks]; exact (State.step_of_skip made :)
  have list : (v.completeStep st).list = s.list := (v.completeStep_around st).list.trans (State.list_of_skip made)
  refine ⟨?_, ?_⟩ <;> rintro rfl
  · rw [started, startSteps_skipped disabled made, ← list, ← step]
    exact startSteps_rest (v.completeStep st)
  · rw [started, startSteps_staged disabled made, isEmpty_drop_eq]

end

/-! ## The end of the pass (R92, R96) -/

section
variable {s : State} {done : Nat} {events : EventTable}

/-- The last pass of a limited scan ends it in IDLE, with SCAN_DONE and the rail's hold (R54, R92). -/
theorem State.endPass_of_last (hdone : done = nextPassesDone s.seq.passesDone)
    (hevents : events = s.events.raise .passDone (BitVec.ofNat 16 s.seq.pass))
    (limited : s.settings.passes ≠ 0) (last : s.settings.passes ≤ done) : s.endPass = { s with
      matrix := .opened
      rail := s.rail.release
      seq := { s.seq with scan := .idle, step := 0, sample := 0, passesDone := done, cont := none, resume := none,
                          paceTimer := none, paceDue := false, latch := false }
      events := events.raise .scanDone (BitVec.ofNat 16 done) } := by
  subst hdone hevents
  rw [State.endPass]
  exact if_pos ⟨limited, last⟩

/-- Any other pass leaves the scan ARMED, or from PAUSING PAUSED to ARMED (R92, R96). -/
theorem State.endPass_of_more (hdone : done = nextPassesDone s.seq.passesDone)
    (hevents : events = s.events.raise .passDone (BitVec.ofNat 16 s.seq.pass))
    (more : s.settings.passes = 0 ∨ done < s.settings.passes) : s.endPass = { s with
      matrix := .opened
      seq := if s.seq.scan = .pausing
        then { s.seq with scan := .paused, step := 0, sample := 0, passesDone := done, cont := none,
                          resume := some .toArmed }
        else { s.seq with scan := .armed, step := 0, sample := 0, passesDone := done, cont := none, resume := none }
      events := events } := by
  subst hdone hevents
  rw [State.endPass]
  dsimp only
  rw [if_neg (by omega)]
  split <;> rfl

end

/-- Settles O60: the starts of a sample, the skipped step and the two ends of a pass, each by its lemma above. -/
theorem continuationsAreTaken : Obligations.ContinuationsAreTaken := by
  refine ⟨fun s st range => State.takeContinuation_measure, ?_, ?_, fun s => rfl, ?_⟩
  · intro s st c sample range current scan rail idle starts first
    rw [State.takeContinuation_begins current starts]
    exact ⟨State.beginSample_in_place (s := s.withSeq { s.seq with sample := sample }) current rail idle scan first.symm,
      State.beginSample_breaks (s := s.withSeq { s.seq with sample := sample }) rail first.symm⟩
  · intro s v w st a current disabled _ admitted hw
    have made : s.skip st = (a, v) := (State.skip_eq st s).trans admitted.symm
    have completed : v.completeStep st = w := by rw [hw, State.completeStep_marks, State.step_of_skip made]
    rw [← completed]
    exact State.takeContinuation_redoStep_disabled current disabled made
  · intro s done events hdone hevents
    refine ⟨State.endPass_of_last hdone hevents, fun more => ?_⟩
    have ended := State.endPass_of_more hdone hevents more
    refine ⟨fun scan => ?_, fun scan => ?_⟩
    · rw [if_neg scan] at ended; exact ended
    · rw [if_pos scan] at ended; exact ended

end Sys2Proof.Machine
end

section
namespace Sys2Proof.Machine

/-! PROOFS. The analog rail: its start window, its hold time and its two faults (R50 to R55). -/

section
variable {s : State}

/-! ## Each event in the rail states it has no effect in -/

theorem State.railInside_of_ne (h : s.rail.state ≠ .starting) : s.railInside = s := by
  unfold State.railInside
  split
  case h_1 starting => exact absurd starting h
  all_goals rfl

theorem State.railTimeout_of_ne (h : s.rail.state ≠ .starting) : s.railTimeout = s := by
  unfold State.railTimeout
  split
  case h_1 starting => exact absurd starting h
  all_goals rfl

theorem State.railDrop_of_ne (h : s.rail.state ≠ .ready) : s.railDrop = s := by
  unfold State.railDrop
  split
  case h_1 ready => exact absurd ready h
  all_goals rfl

/-- A rail that is not READY, or whose hold timer is stopped, is in no hold time (R54). -/
theorem State.holdEnds_of_not (h : s.rail.state ≠ .ready ∨ s.rail.holdTimer = none) : s.holdEnds = s := by
  unfold State.holdEnds
  split
  case h_1 t ready holds =>
    rcases h with h | h
    · exact absurd ready h
    · rw [h] at holds; cases holds
  all_goals rfl

/-! ## Each event where it has its effect -/

/-- A STARTING rail inside its window is READY (R52). -/
theorem State.railInside_of_starting (h : s.rail.state = .starting) :
    s.railInside = s.withRail { s.rail with state := .ready, startTimer := none } := by
  rw [State.railInside, h]

/-- The hold time takes the time left on it and ends with the rail OFF (R54). -/
theorem State.holdEnds_of_holding {g : Nat} (h : s.rail.state = .ready) (holds : s.rail.holdTimer = some g) :
    s.holdEnds = (s.advance (80000 - g)).withRail .off := by
  rw [State.holdEnds, h, holds]
  rfl

/-- The start window takes the time left on it and ends in a fault (R52, R55). -/
theorem State.railTimeout_of_starting {g : Nat} (h : s.rail.state = .starting) (runs : s.rail.startTimer = some g) :
    s.railTimeout = (s.advance (1200 - g)).railFault .startTimeout := by
  rw [State.railTimeout, h, runs]
  rfl

/-- A READY rail that leaves its window faults (R53, R55). -/
theorem State.railDrop_of_ready (h : s.rail.state = .ready) : s.railDrop = s.railFault .drop := by
  rw [State.railDrop, h]

/-- Time does not move the position that STATUS reports (R79). -/
@[simp] theorem State.position_advance (n : Nat) (s : State) : (s.advance n).position = s.position := by
  unfold State.position
  rw [State.advance_seq, State.advance_queue, Sequencer.advance_scan, Sequencer.advance_step, Sequencer.advance_sample,
    Sequencer.advance_resume]

/-- A rail fault in a scan that is not IDLE: the scan is FAULTED where it stood (R55, R71, R100). -/
theorem State.railFault_of_active (active : s.seq.scan ≠ .idle) (cause : RailCause) : s.railFault cause = { s with
    matrix := .opened
    conv := .idle
    rail := { state := .fault, startTimer := none, holdTimer := none, cause := some cause }
    ranging := .dropped
    seq := { s.seq with scan := .faulted, step := s.position.1, sample := s.position.2, cont := none, resume := none,
                        acc := .empty, redo := false }
    events := s.events.raise .railFault cause.detail } := by
  unfold State.railFault
  cases scan : s.seq.scan with
  | idle => exact absurd scan active
  | _ => rfl

/-- A rail fault with the scan IDLE leaves the rail OFF (R55). -/
theorem State.railFault_of_idle (idle : s.seq.scan = .idle) (cause : RailCause) : s.railFault cause = { s with
    matrix := .opened
    conv := .idle
    rail := .off
    events := s.events.raise .railFault cause.detail } := by
  rw [State.railFault, idle]
  rfl

/-- Both faults are a rail fault, START_TIMEOUT after the time left on the start window (R52, R53). -/
theorem exec_rail_fault {u : State} {c : Instr} {cause : RailCause} {detail : Word16} (live : s.pins.resetLow = false)
    (faults : c = .startTimeout ∧ cause = .startTimeout ∧ detail = 1 ∧ s.rail.state = .starting
        ∧ (∃ g, s.rail.startTimer = some g ∧ u = s.advance (1200 - g))
      ∨ c = .drop ∧ cause = .drop ∧ detail = 2 ∧ s.rail.state = .ready ∧ u = s) :
    exec c s = .next (u.railFault cause) ∧ detail = cause.detail ∧ u.events = s.events ∧ u.position = s.position
      ∧ u.seq.scan = s.seq.scan := by
  rcases faults with ⟨rfl, rfl, rfl, starting, g, runs, rfl⟩ | ⟨rfl, rfl, rfl, ready, rfl⟩
  · refine ⟨?_, rfl, rfl, s.position_advance _, Sequencer.advance_scan _ _ _⟩
    rw [← State.railTimeout_of_starting starting runs]
    exact whileLive_of_live live _
  · refine ⟨?_, rfl, rfl, rfl, rfl⟩
    rw [← State.railDrop_of_ready ready]
    exact whileLive_of_live live _

end

/-- Settles O52: the four events by rail state, and the two faults as one event with the scan IDLE or not. -/
theorem railStartsHoldsAndFaults : Obligations.RailStartsHoldsAndFaults := by
  refine ⟨fun s live => ?_, fun s u c cause detail live faults => ?_⟩
  · have inside : exec .railInsideWindow s = .next s.railInside := whileLive_of_live live _
    have timeout : exec .startTimeout s = .next s.railTimeout := whileLive_of_live live _
    have hold : exec .holdExpiry s = .next s.holdEnds := whileLive_of_live live _
    have drop : exec .drop s = .next s.railDrop := whileLive_of_live live _
    rw [inside, timeout, hold, drop]
    refine ⟨fun h => ?_, fun h => ⟨?_, ?_⟩, fun g h holds => ?_, fun h => ?_, fun h => ?_⟩
    · rw [State.railInside_of_starting h]
    · rw [State.railInside_of_ne h]
    · rw [State.railTimeout_of_ne h]
    · rw [State.holdEnds_of_holding h holds]; rfl
    · rw [State.holdEnds_of_not h]
    · rw [State.railDrop_of_ne h]
  · obtain ⟨effect, rfl, events, position, scan⟩ := exec_rail_fault live faults
    rw [effect, ← events, ← position, ← scan]
    exact ⟨fun active => congrArg _ (State.railFault_of_active active cause),
      fun idle => congrArg _ (State.railFault_of_idle idle cause)⟩

end Sys2Proof.Machine
end

section
namespace Sys2Proof.Machine

/-! PROOFS. A conversion that delivers its outcome, range control that accepts it, and the AUTO sample of an EACH step that
becomes a record (R62 to R69, R88, R89, R96). -/

/-! ## The conversion delivers its outcome (R30, R33, R35) -/

/-- The reported count of a crossing: the tick of the crossing with its sign, ten times it in FAST (R31, R34). -/
theorem reportedCount_signedMagnitude (md : Mode) (p : Polarity) (m : Nat) :
    reportedCount md (signedMagnitude p m)
      = (if p = .negative then -1 else 1) * (if md = .fast then 10 else 1) * (m : Int) := by
  cases md <;> cases p <;> simp [reportedCount, signedMagnitude] <;> omega

/-- The count of an OVERRANGE conversion (R33). -/
theorem overrangeCount_eq (p : Polarity) : overrangeCount p = if p = .negative then -4400 else 4400 := by
  cases p <;> rfl

section
variable {s : State} {st : Step} {range wait : Nat} {md : Mode} {c : Instr} {count : Int} {ovr hunt : Bool}

/-- The event that completes a conversion hands its outcome over, after the time that was left to it (R30, R33, R35). -/
theorem exec_delivers {f : MeasFunction} (live : s.pins.resetLow = false) (phase : s.conv.phase = .deintegrate)
    (function : s.conv.function = some f) (delivers : s.Delivers md c count ovr wait) :
    exec c s = .next ((s.advance wait).completeConversion
      { count := count, overrange := ovr, mode := md, function := f }) := by
  obtain ⟨mode, ⟨rfl, rfl, m, crossing, rfl, rfl⟩ | ⟨rfl, rfl, crossing, rfl, rfl⟩⟩ := delivers
  · refine (whileLive_of_live live State.crossThreshold).trans (congrArg _ ?_)
    rw [State.crossThreshold, phase, Option.mem_def.1 crossing, ← reportedCount_signedMagnitude,
      Converter.modeOr_of_mode mode, Converter.functionOr_of_function function]
  · refine (whileLive_of_live live State.reachLimit).trans (congrArg _ ?_)
    rw [State.reachLimit, phase, crossing, ← overrangeCount_eq, Converter.modeOr_of_mode mode,
      Converter.functionOr_of_function function, deintegrateTicks_eq]

/-! ## Range control accepts it (R61 to R69) -/

/-- R62's table wants another range exactly where the outcome wants a change. -/
theorem wantedRange_eq_none (o : ConvOutcome) (r : Nat) :
    wantedRange o r = none ↔ ¬WantsChange o.function r o.count o.overrange := by
  unfold wantedRange WantsChange
  cases o.overrange with
  | true => by_cases higher : r < highestRange o.function <;> simp [higher]
  | false => by_cases lower : o.count.natAbs < 360 ∧ 0 < r <;> simp [Config.downThreshold, lower]

/-- Range control may look for another range for an AUTO sample that is not locked to its step's range (R61, R68). -/
theorem State.mayRange_iff : s.mayRange st = true
    ↔ s.table[st.channel].range = .auto ∧ (st.mean = false ∨ s.ranging.lock = none) := by
  unfold State.mayRange
  cases st.mean <;> simp

/-- An outcome that range control accepts is judged so (R61, R62, R64, R65, R68, R69). -/
theorem State.judge_of_accepts (sample : s.ranging.sampleRange = some range)
    (accepts : s.Accepts st range count ovr hunt) :
    s.judge st { count := count, overrange := ovr, mode := md, function := s.table[st.channel].function }
      = s.acceptOutcome st hunt
          { count := count, overrange := ovr, mode := md, function := s.table[st.channel].function } := by
  rw [State.judge, sample]
  rcases accepts with ⟨fixed, rfl⟩ | ⟨-, mean, lock, rfl⟩ | ⟨auto, first, wants, last⟩
  · rw [if_neg]
    rw [State.mayRange_iff, fixed]
    exact fun may => nomatch may.1
  · rw [if_neg]
    rw [State.mayRange_iff, mean, lock]
    exact fun may => may.2.elim nofun nofun
  · rw [if_pos (State.mayRange_iff.2 ⟨auto, first⟩)]
    have none_iff := wantedRange_eq_none
      { count := count, overrange := ovr, mode := md, function := s.table[st.channel].function } range
    rw [← wants] at none_iff
    dsimp only [Option.getD_some]
    cases hunt with
    | false => rw [none_iff.2 Bool.false_ne_true]
    | true =>
      split
      next noChange => exact absurd rfl (none_iff.1 noChange)
      next => exact if_pos (last rfl)

/-- An accepted outcome ends the ranging of its sample; an AUTO channel remembers the range of a sample without OVER, and a
MEAN step on AUTO is locked to its range (R66 to R68). -/
theorem State.acceptOutcome_eq (sample : s.ranging.sampleRange = some range) (hunt : Bool) (o : ConvOutcome) :
    s.acceptOutcome st hunt o = State.takeSample st
      { count := o.count, range := range, overrange := o.overrange, hunt := hunt, fast := decide (o.mode = .fast),
        function := o.function }
      { s with
        table := if s.table[st.channel].range = .auto ∧ o.overrange = false
          then s.table.set st.channel { s.table[st.channel] with remembered := range } else s.table
        ranging := { sampleRange := none, changes := 0
                     lock := if s.table[st.channel].range = .auto ∧ st.mean = true
                       then some (s.ranging.lock.getD range) else s.ranging.lock } } := by
  have remembered : (decide (s.table[st.channel].range = .auto) && !o.overrange) = true
      ↔ s.table[st.channel].range = .auto ∧ o.overrange = false := by simp
  have locked : (decide (s.table[st.channel].range = .auto) && st.mean) = true
      ↔ s.table[st.channel].range = .auto ∧ st.mean = true := by simp
  rw [State.acceptOutcome, sample]
  dsimp only [Option.getD_some]
  rw [if_congr remembered rfl rfl, if_congr locked rfl rfl]
  congr 1
  split <;> rfl

/-- The step lock of a MEAN step on AUTO is the range on which its samples are accepted (R68). -/
theorem State.Accepts.lock_getD (accepts : s.Accepts st range count ovr hunt) (auto : s.table[st.channel].range = .auto)
    (mean : st.mean = true) : s.ranging.lock.getD range = range := by
  rcases accepts with ⟨fixed, -⟩ | ⟨-, -, lock, -⟩ | ⟨-, each | lock, -⟩
  · rw [auto] at fixed; cases fixed
  · rw [lock]; rfl
  · rw [mean] at each; cases each
  · rw [lock]; rfl

/-- In RUNNING and PAUSING an outcome is judged for the current step (R88, R96). -/
theorem State.takeOutcome_of_scanning {o : ConvOutcome} (current : s.currentStep = some st)
    (scan : s.seq.scan = .running ∨ s.seq.scan = .pausing) : s.takeOutcome o = s.judge st o := by
  rcases scan with scan | scan <;> rw [State.takeOutcome, scan, current]

/-- A conversion of the current step whose outcome is accepted becomes its sample (R35, R66, R88). -/
theorem exec_accepts (converts : s.ConvertsFor st range) (scan : s.seq.scan = .running ∨ s.seq.scan = .pausing)
    (delivers : s.Delivers md c count ovr wait) (accepts : s.Accepts st range count ovr hunt) :
    exec c s = .next ((s.afterAcceptance st range wait ovr).takeSample st
      { count := count, range := range, overrange := ovr, hunt := hunt, fast := decide (md = .fast),
        function := s.table[st.channel].function }) := by
  obtain ⟨live, current, phase, function, -, sample, -, -, -, -⟩ := converts
  have later : (s.advance wait).seq.scan = s.seq.scan := Sequencer.advance_scan _ _ _
  have accepts' : ((s.advance wait).withConv .idle).Accepts st range count ovr hunt := by
    rw [State.Accepts, State.withConv_seq, later]; exact accepts
  have lock : (if s.table[st.channel].range = .auto ∧ st.mean = true then some (s.ranging.lock.getD range)
      else s.ranging.lock) = if s.table[st.channel].range = .auto ∧ st.mean = true then some range else s.ranging.lock :=
    if_ctx_congr Iff.rfl (fun locks => by rw [State.Accepts.lock_getD accepts locks.1 locks.2]) fun _ => rfl
  have judged := State.judge_of_accepts (s := (s.advance wait).withConv .idle) (md := md) sample accepts'
  have accepted := State.acceptOutcome_eq (s := (s.advance wait).withConv .idle) (st := st) sample hunt
    { count := count, overrange := ovr, mode := md, function := s.table[st.channel].function }
  rw [exec_delivers live phase function delivers]
  refine congrArg _ ((State.takeOutcome_of_scanning ?_ ?_).trans (judged.trans (accepted.trans ?_)))
  · exact (s.currentStep_advance wait).trans current
  · rw [State.abortConversion_eq, State.withConv_seq, later]; exact scan
  · rw [State.afterAcceptance, ← lock]; rfl

/-! ## The record of an EACH sample (R88, R89) -/

/-- A record of a channel with no window passes the Limit Monitor untouched (R145). -/
theorem State.evaluate_of_no_window {r : Record} (h : s.table[r.channel].window = none) : s.evaluate r = (r, s) := by
  unfold State.evaluate
  dsimp only
  rw [h]
  cases r.flags.skipped <;> rfl

/-- The state after a record of a channel with no window has joined a list with room (R89, R112). -/
def State.recorded (r : Record) (s : State) : State :=
  { s with
    seq := { s.seq with redo := false }
    queue := { s.queue with list := s.queue.list ++ [{ record := r, sent := false }]
                            nextSeq := s.queue.nextSeq + 1 } }

/-- On a list with room the record of a channel with no window takes the next number and joins the list. -/
theorem State.produce_of_no_window {draft : Record} (h : s.table[draft.channel].window = none)
    (room : s.queue.list.length < 128) : s.produce draft = (.goOn, s.recorded (s.assign draft).1) := by
  rw [State.produce, State.evaluate_of_no_window (s := (s.assign draft).2) (r := (s.assign draft).1) h,
    State.admitRecord]
  exact if_pos room

/-- An acceptance leaves the function, the mode and the other settings of the channel, and its window. -/
theorem State.afterAcceptance_get : (s.afterAcceptance st range wait ovr).table[st.channel]
    = if s.table[st.channel].range = .auto ∧ ovr = false then { s.table[st.channel] with remembered := range }
      else s.table[st.channel] := by
  rw [State.afterAcceptance]
  dsimp only
  split
  · exact get_set_self _ _ _
  · rfl

/-- An EACH sample that is not its step's last, on a channel with no window and a list with room, becomes its record, and
the scan goes on with the next sample (R88, R90, R112). -/
theorem State.takeSample_each {a : Sample} (each : st.mean = false) (more : s.seq.sample < st.samples)
    (window : s.table[st.channel].window = none) (room : s.queue.list.length < 128) :
    s.takeSample st a = (s.recorded (s.assign (s.eachRecord st a)).1).goOnWith .nextSample := by
  rw [State.takeSample, if_neg (ne_true_of_eq_false each), decide_eq_false (Nat.not_le.2 more), State.deliver,
    State.produce_of_no_window (draft := s.eachRecord st a) window room]
  rfl

/-- The record of an accepted EACH sample is the measured record (R89). -/
theorem State.eachRecord_afterAcceptance :
    ((s.afterAcceptance st range wait ovr).assign ((s.afterAcceptance st range wait ovr).eachRecord st
      { count := count, range := range, overrange := ovr, hunt := hunt, fast := decide (md = .fast),
        function := s.table[st.channel].function })).1
      = s.measuredRecord st md range count ovr hunt (s.advance wait).seq.clockMs := by
  have seq : (s.afterAcceptance st range wait ovr).seq = s.seq.advance s.settings.intervalTicks wait := rfl
  rw [State.assign, State.eachRecord, State.measuredRecord, seq, Sequencer.advance_pass, Sequencer.advance_step,
    Sequencer.advance_sample, Sequencer.advance_redo]
  rfl

/-- The state after an EACH sample of the current step has been accepted and recorded. -/
def State.afterEach (s : State) (st : Step) (range wait : Nat) (ovr : Bool) (r : Record) : State :=
  (s.afterAcceptance st range wait ovr).recorded r

/-- A conversion whose outcome is accepted for an EACH sample, not its step's last, on a channel with no window and a list
with room (R35, R66, R88 to R90). -/
theorem exec_accepts_each (converts : s.ConvertsFor st range) (scan : s.seq.scan = .running ∨ s.seq.scan = .pausing)
    (delivers : s.Delivers md c count ovr wait) (accepts : s.Accepts st range count ovr hunt)
    (each : st.mean = false) (more : s.seq.sample < st.samples) (window : s.table[st.channel].window = none)
    (room : s.queue.list.length < 128) :
    exec c s = .next ((s.afterEach st range wait ovr
      (s.measuredRecord st md range count ovr hunt (s.advance wait).seq.clockMs)).goOnWith .nextSample) := by
  rw [exec_accepts converts scan delivers accepts, State.takeSample_each each, State.eachRecord_afterAcceptance,
    State.afterEach]
  · exact (Sequencer.advance_sample _ _ _).trans_lt more
  · rw [State.afterAcceptance_get]; split <;> exact window
  · exact room

/-! ## The next sample after it (R43, R60, R96) -/

variable {r : Record}

/-- In PAUSING the scan is PAUSED before the next sample (R96). -/
theorem State.goOnWith_nextSample_pausing (scan : s.seq.scan = .pausing) :
    s.goOnWith .nextSample = s.pauseWithin .nextSample := if_pos scan

/-- In RUNNING the next sample is taken (R88). -/
theorem State.goOnWith_of_running (scan : s.seq.scan = .running) (c : Continuation) :
    s.goOnWith c = s.takeContinuation c :=
  if_neg (by rw [scan]; decide)

/-- No time is counted on a connection (R40). -/
theorem Matrix.advance_of_connected {n : Nat} {m : Matrix} (h : m.phase = .connected) : m.advance n = m := by
  rw [Matrix.advance, h]

/-- An accepted and recorded EACH sample on AUTO, written out block by block (R66, R67, R89). -/
theorem State.afterEach_eq (auto : s.table[st.channel].range = .auto) (each : st.mean = false) :
    s.afterEach st range wait ovr r = { s.advance wait with
      table := if ovr then s.table else s.table.set st.channel { s.table[st.channel] with remembered := range }
      conv := .idle
      ranging := { sampleRange := none, changes := 0, lock := s.ranging.lock }
      seq := { (s.advance wait).seq with redo := false }
      queue := { s.queue with list := s.queue.list ++ [{ record := r, sent := false }]
                              nextSeq := s.queue.nextSeq + 1 } } := by
  rw [State.afterEach, State.afterAcceptance, each, auto]
  cases ovr <;> rfl

/-- The channel of an accepted and recorded sample on AUTO: the range is remembered without OVER (R67). -/
theorem State.afterEach_get (auto : s.table[st.channel].range = .auto) :
    (s.afterEach st range wait ovr r).table[st.channel]
      = { s.table[st.channel] with remembered := if ovr then s.table[st.channel].remembered else range } := by
  refine (State.afterAcceptance_get (wait := wait)).trans ?_
  rw [auto]
  cases ovr <;> rfl

/-- The next sample is started with the function and mode of its channel, which an acceptance leaves (R24). -/
theorem State.afterEach_startedOn (auto : s.table[st.channel].range = .auto) :
    (s.afterEach st range wait ovr r).startedOn st = s.startedOn st := by
  rw [State.startedOn, State.afterEach_get auto]; rfl

/-- The next sample breaks to its channel as it was set (R42). -/
theorem State.afterEach_breakingTo (auto : s.table[st.channel].range = .auto) (aim : Nat) :
    (s.afterEach st range wait ovr r).breakingTo st aim = s.breakingTo st aim := by
  rw [State.breakingTo, State.afterEach_get auto]; rfl

/-- The next sample of an AUTO channel begins on its remembered range (R60). -/
theorem State.afterEach_firstRange (auto : s.table[st.channel].range = .auto) (each : st.mean = false) :
    (s.afterEach st range wait ovr r).firstRange st = if ovr then s.table[st.channel].remembered else range := by
  rw [State.firstRange, State.afterEach_get auto, each]
  dsimp only
  rw [auto]
  rfl

/-- In RUNNING the next sample of an AUTO channel begins on its remembered range: on the connection in place where that is
the range of the accepted sample, with a break otherwise (R43, R60, R67). -/
theorem State.afterEach_goes_on (converts : s.ConvertsFor st range) (running : s.seq.scan = .running)
    (auto : s.table[st.channel].range = .auto) (each : st.mean = false) {aim : Nat}
    (first : aim = if ovr then s.table[st.channel].remembered else range) :
    (s.afterEach st range wait ovr r).goOnWith .nextSample = { s.advance wait with
      table := if ovr then s.table else s.table.set st.channel { s.table[st.channel] with remembered := range }
      conv := if aim = range then s.startedOn st else .idle
      matrix := if aim = range then s.matrix else s.breakingTo st aim
      ranging := { sampleRange := some aim, changes := 0, lock := s.ranging.lock }
      seq := { (s.advance wait).seq with sample := s.seq.sample + 1, cont := some .measure, redo := false }
      queue := { s.queue with list := s.queue.list ++ [{ record := r, sent := false }]
                              nextSeq := s.queue.nextSeq + 1 } } := by
  obtain ⟨-, current, -, -, -, -, connected, channel, selection, rail⟩ := converts
  have current' : (s.afterEach st range wait ovr r).currentStep = some st := (s.currentStep_advance wait).trans current
  have running' : (s.afterEach st range wait ovr r).seq.scan = .running := (Sequencer.advance_scan _ _ _).trans running
  have sample : s.seq.sample + 1 = (s.afterEach st range wait ovr r).seq.sample + 1 :=
    congrArg (· + 1) (Sequencer.advance_sample _ _ _).symm
  have first' : (s.afterEach st range wait ovr r).firstRange st = aim :=
    (State.afterEach_firstRange auto each).trans first.symm
  have matrix : (s.afterEach st range wait ovr r).matrix = s.matrix := Matrix.advance_of_connected connected
  have started : (s.afterEach st range wait ovr r).startedOn st = s.startedOn st := State.afterEach_startedOn auto
  have breaks : (s.afterEach st range wait ovr r).breakingTo st aim = s.breakingTo st aim :=
    State.afterEach_breakingTo auto aim
  have function : (s.afterEach st range wait ovr r).table[st.channel].function = s.table[st.channel].function := by
    rw [State.afterEach_get auto]
  have rail' : (s.afterEach st range wait ovr r).rail.state = .ready := rail
  have idle : (s.afterEach st range wait ovr r).conv.phase = .idle := rfl
  have written := State.afterEach_eq (range := range) (wait := wait) (ovr := ovr) (r := r) auto each
  generalize s.afterEach st range wait ovr r = v at *
  rw [State.goOnWith_of_running running', State.takeContinuation_begins current' (.inl ⟨rfl, sample⟩)]
  by_cases same : aim = range
  · rw [if_pos same, if_pos same, ← started, ← matrix,
      State.beginSample_in_place (s := v.withSeq { v.seq with sample := s.seq.sample + 1 }) (range := aim) current' rail'
        idle running' first']
    · subst written; rfl
    · rw [State.withSeq_matrix, matrix]; exact connected
    · rw [State.withSeq_matrix, matrix]; exact channel
    · rw [State.withSeq_matrix, State.withSeq_table, matrix, function, same]; exact selection
  · have moved : v.matrix.selection ≠ some (v.table[st.channel].function, aim) := by
      rw [matrix, selection, function]
      exact fun h => same (congrArg Prod.snd (Option.some.inj h)).symm
    rw [if_neg same, if_neg same, ← breaks,
      State.beginSample_breaks (s := v.withSeq { v.seq with sample := s.seq.sample + 1 }) (range := aim) rail' first'
        (.inr ⟨(congrArg Matrix.phase matrix).trans connected, .inr moved⟩)]
    subst written; rfl

end

/-! ## The two ways in which a sample in RUNNING is accepted (R62, R64, R65) -/

/-- Without overrange: no change is wanted, or one is after four changes. -/
theorem wantsChange_within {f : MeasFunction} {range changes : Nat} {count : Int} {hunt : Bool}
    (judged : (360 ≤ count.natAbs ∨ range = 0) ∧ hunt = false
      ∨ count.natAbs < 360 ∧ 0 < range ∧ 4 ≤ changes ∧ hunt = true) :
    (hunt = true ↔ WantsChange f range count false) ∧ (hunt = true → 4 ≤ changes) := by
  rcases judged with ⟨stays, rfl⟩ | ⟨low, lower, four, rfl⟩
  · refine ⟨⟨nofun, ?_⟩, nofun⟩
    rintro (⟨no, -⟩ | ⟨-, low, lower⟩)
    · cases no
    · omega
  · exact ⟨iff_of_true rfl (.inr ⟨rfl, low, lower⟩), fun _ => four⟩

/-- With an overrange: the range is the highest, or a higher one is wanted after four changes. -/
theorem wantsChange_over {f : MeasFunction} {range changes : Nat} {count : Int} {hunt : Bool}
    (judged : highestRange f ≤ range ∧ hunt = false ∨ range < highestRange f ∧ 4 ≤ changes ∧ hunt = true) :
    (hunt = true ↔ WantsChange f range count true) ∧ (hunt = true → 4 ≤ changes) := by
  rcases judged with ⟨highest, rfl⟩ | ⟨higher, four, rfl⟩
  · refine ⟨⟨nofun, ?_⟩, nofun⟩
    rintro (⟨-, higher⟩ | ⟨no, -⟩)
    · omega
    · cases no
  · exact ⟨iff_of_true rfl (.inl ⟨rfl, higher⟩), fun _ => four⟩

/-- Settles O48: the outcome is accepted in all three parts; in RUNNING the next sample begins, in PAUSING the scan is
PAUSED before it. -/
theorem autoSampleIsAcceptedOnItsRange : Obligations.AutoSampleIsAcceptedOnItsRange := by
  intro s st range wait md c count ovr hunt r converts delivers auto each more window room hr
  subst hr
  have recorded (scan : s.seq.scan = .running ∨ s.seq.scan = .pausing)
      (wants : hunt = true ↔ WantsChange s.table[st.channel].function range count ovr)
      (last : hunt = true → s.seq.scan = .pausing ∨ 4 ≤ s.ranging.changes) :=
    exec_accepts_each converts scan delivers (.inr (.inr ⟨auto, .inl each, wants, last⟩)) each more window room
  refine ⟨fun running within judged => ?_, fun running overrange judged => ?_, fun pausing wants => ?_⟩
  · subst within
    obtain ⟨wants, last⟩ := wantsChange_within judged
    have connected : s.matrix.phase = .connected := by obtain ⟨-, -, -, -, -, -, connected, -⟩ := converts; exact connected
    have matrix : (s.advance wait).matrix = s.matrix := Matrix.advance_of_connected connected
    rw [recorded (.inl running) wants fun h => .inr (last h),
      State.afterEach_goes_on (aim := range) converts running auto each rfl, if_pos (rfl : range = range),
      if_pos (rfl : range = range), ← matrix]
    rfl
  · subst overrange
    obtain ⟨wants, last⟩ := wantsChange_over judged
    rw [recorded (.inl running) wants fun h => .inr (last h),
      State.afterEach_goes_on (aim := s.table[st.channel].remembered) converts running auto each rfl]
    rfl
  · rw [recorded (.inr pausing) wants fun _ => .inl pausing, State.goOnWith_nextSample_pausing,
      State.afterEach_eq auto each]
    · rfl
    · exact (Sequencer.advance_scan _ _ _).trans pausing

end Sys2Proof.Machine
end

section
namespace Sys2Proof.Machine

/-! PROOFS. An accepted sample of an EACH step: its record is produced, and the scan takes the next sample, goes on, holds or
pauses (R66, R67, R88 to R96). -/

/-! ## After a record (R90 to R96) -/

/-- An evaluation leaves the sequencer as it was (R147). -/
@[simp] theorem State.evaluate_seq (r : Record) (s : State) : (s.evaluate r).2.seq = s.seq := by
  rcases (s.evaluate_cases r).2 with h | ⟨-, h⟩ | ⟨-, h⟩ <;> rw [h] <;> rfl

/-- The production of a record clears the redo mark, and that is all it does to the sequencer (R89, R109). -/
@[simp] theorem State.produce_seq (draft : Record) (s : State) :
    (s.produce draft).2.seq = { s.seq with redo := false } := by
  rw [State.produce, State.admitRecord_seq, State.evaluate_seq]; rfl

section
variable {s v : State} {st : Step} {draft : Record} {a : Admission} {last : Bool}

/-- What comes after the step is the same before and after its record is produced (R91). -/
theorem State.afterStep_of_produce (made : s.produce draft = (a, v)) : s.afterStep = v.afterStep := by
  have list : v.list = s.list := by
    rw [← (s.produce_around draft).list, made]
  have step : v.seq.step = s.seq.step := by
    rw [show v = (s.produce draft).2 by rw [made], State.produce_seq]
  rw [State.afterStep, State.afterStep, list, step]

/-- A record that was not staged lets the scan go on (R90). -/
theorem State.deliver_of_goOn (made : s.produce draft = (.goOn, v)) : s.deliver st last draft
    = (if last then v.completeStep st else v).goOnWith (if last then v.afterStep else .nextSample) := by
  rw [State.deliver, made, State.afterStep_of_produce made]

/-- A record that was staged makes the scan hold (R90, R93). -/
theorem State.deliver_of_hold (made : s.produce draft = (.hold, v)) : s.deliver st last draft
    = (if last then v.completeStep st else v).holdWith (if last then v.afterStep else .nextSample) := by
  rw [State.deliver, made, State.afterStep_of_produce made]

/-- In PAUSING the scan is PAUSED before what comes next, unless that is the end of the pass (R96). -/
theorem State.goOnWith_of_pausing (scan : s.seq.scan = .pausing) {c : Continuation} (inside : c ≠ .endPass) :
    s.goOnWith c = s.pauseWithin c := by
  unfold State.goOnWith
  rw [if_pos scan]
  cases c with
  | endPass => exact absurd rfl inside
  | _ => rfl

/-- After a record the step is completed when it was its last, and the scan goes on or holds (R88 to R96). -/
theorem State.deliver_goesOn (made : s.produce draft = (a, v)) :
    GoesOnAfterRecord st last a v (.next (s.deliver st last draft)) := by
  intro w next hw hnext
  have completed : (if last then v.completeStep st else v) = w := by
    rw [hw, State.completeStep_marks]
  have scan : w.seq.scan = v.seq.scan := by rw [hw]; cases last <;> rfl
  have follows : (if last then v.afterStep else .nextSample) = next := hnext.symm
  refine ⟨fun running goOn => ?_, fun running hold => ?_, fun pausing goOn ends => ?_, fun pausing stops => ?_⟩
  · subst goOn
    rw [State.deliver_of_goOn made, completed, follows, State.goOnWith_of_running (scan.trans running)]
  · subst hold
    rw [State.deliver_of_hold made, completed, follows, State.holdWith, if_neg (by rw [scan, running]; decide)]
    rfl
  · subst goOn
    rw [State.deliver_of_goOn made, completed, follows, ends, State.goOnWith, if_pos (scan.trans pausing)]
    rfl
  · show _ = Host.Outcome.next (w.pauseWithin next)
    cases a with
    | goOn =>
      have inside : next ≠ .endPass := stops.resolve_left nofun
      rw [State.deliver_of_goOn made, completed, follows, State.goOnWith_of_pausing (scan.trans pausing) inside]
    | hold =>
      rw [State.deliver_of_hold made, completed, follows, State.holdWith, if_pos (scan.trans pausing)]

end

section
variable {s u v : State} {st : Step} {range wait : Nat} {md : Mode} {c : Instr} {count : Int} {ovr hunt : Bool}
  {r : Record} {a : Admission}

/-! ## The next sample after an accepted one (R60, R67, R68) -/

/-- A sample after an accepted one begins on the same range, unless it is one of an EACH step on AUTO (R60). -/
theorem State.firstRange_afterAcceptance (accepts : s.Accepts st range count ovr hunt)
    (keeps : s.table[st.channel].range = .auto → st.mean = true) :
    (s.afterAcceptance st range wait ovr).firstRange st = range := by
  have unset : (s.afterAcceptance st range wait ovr).table[st.channel].range = s.table[st.channel].range := by
    rw [State.afterAcceptance_get]; split <;> rfl
  unfold State.firstRange
  dsimp only
  rw [unset]
  cases setting : s.table[st.channel].range with
  | fixed k =>
    have same : k = range := by
      rcases accepts with ⟨fixed, -⟩ | ⟨auto, -⟩ | ⟨auto, -⟩
      · exact RangeSetting.fixed.inj (setting.symm.trans fixed)
      · cases setting.symm.trans auto
      · cases setting.symm.trans auto
    exact same
  | auto =>
    have mean := keeps setting
    have lock : (s.afterAcceptance st range wait ovr).ranging.lock = some range := if_pos ⟨setting, mean⟩
    rw [lock]
    exact if_pos mean

/-- In RUNNING the next sample on the range of the accepted one begins at once on the connection in place (R24, R43). -/
theorem State.next_sample_in_place {q : Sequencer} {l : ResultQueue} (converts : s.ConvertsFor st range)
    (accepts : s.Accepts st range count ovr hunt) (keeps : s.table[st.channel].range = .auto → st.mean = true)
    (running : q.scan = .running) (step : q.step = s.seq.step) (sample : q.sample = s.seq.sample) :
    (((s.afterAcceptance st range wait ovr).withSeq q).withQueue l).takeContinuation .nextSample
      = { s.afterAcceptance st range wait ovr with
          conv := s.startedOn st
          ranging := { (s.afterAcceptance st range wait ovr).ranging with sampleRange := some range }
          seq := { q with sample := s.seq.sample + 1, cont := some .measure }
          queue := l } := by
  obtain ⟨-, current, -, -, -, -, connected, channel, selection, rail⟩ := converts
  have matrix : (s.afterAcceptance st range wait ovr).matrix = s.matrix := Matrix.advance_of_connected connected
  have first : (s.afterAcceptance st range wait ovr).firstRange st = range :=
    State.firstRange_afterAcceptance accepts keeps
  have current' : (((s.afterAcceptance st range wait ovr).withSeq q).withQueue l).currentStep = some st := by
    rw [← current]
    exact congrArg (s.list[·]?) step
  have function : (s.afterAcceptance st range wait ovr).table[st.channel].function = s.table[st.channel].function := by
    rw [State.afterAcceptance_get]; split <;> rfl
  have started : (s.afterAcceptance st range wait ovr).startedOn st = s.startedOn st := by
    rw [State.startedOn, State.afterAcceptance_get]; split <;> rfl
  rw [State.takeContinuation_begins current' (.inl ⟨rfl, congrArg (· + 1) sample.symm⟩),
    State.beginSample_in_place (st := st) (range := range)]
  · rw [← started]; rfl
  · exact current'
  · exact rail
  · rfl
  · exact running
  · exact first
  · exact (congrArg Matrix.phase matrix).trans connected
  · exact (congrArg Matrix.channel matrix).trans channel
  · refine (congrArg Matrix.selection matrix).trans (selection.trans ?_)
    rw [← function]; rfl

/-! ## The record of an EACH sample (R88, R89, R109) -/

/-- The state in which the record of an accepted EACH sample is evaluated: it has taken its number and the redo mark. -/
def State.numbered (s : State) (st : Step) (range wait : Nat) (ovr : Bool) : State :=
  { s.afterAcceptance st range wait ovr with
    seq := { (s.advance wait).seq with redo := false }
    queue := { s.queue with nextSeq := s.queue.nextSeq + 1 } }

/-- An accepted sample of an EACH step gives its record, last or not, and the scan goes on or holds (R66, R88 to R96). -/
theorem exec_each_goesOn (converts : s.ConvertsFor st range) (scan : s.seq.scan = .running ∨ s.seq.scan = .pausing)
    (delivers : s.Delivers md c count ovr wait) (accepts : s.Accepts st range count ovr hunt) (each : st.mean = false)
    (hr : r = s.measuredRecord st md range count ovr hunt (s.advance wait).seq.clockMs)
    (admitted : ((s.numbered st range wait ovr).evaluate r).2.admitRecord ((s.numbered st range wait ovr).evaluate r).1
      = (a, v)) :
    GoesOnAfterRecord st (decide (st.samples ≤ s.seq.sample)) a v (exec c s) := by
  have sample : (s.afterAcceptance st range wait ovr).seq.sample = s.seq.sample := Sequencer.advance_sample _ _ _
  rw [exec_accepts converts scan delivers accepts, State.takeSample, if_neg (ne_true_of_eq_false each), sample]
  refine State.deliver_goesOn ?_
  rw [State.produce, State.eachRecord_afterAcceptance, ← hr]
  exact admitted

/-- Without a window and with room the record joins the list (R112, R145). -/
theorem State.admit_of_room (window : s.table[r.channel].window = none) (room : s.queue.list.length < 128) :
    (s.evaluate r).2.admitRecord (s.evaluate r).1 = (.goOn, s.withQueue (s.queue.append r)) := by
  rw [State.evaluate_of_no_window window, State.admitRecord]
  exact if_pos room

/-- Without a window, on a full list under STALL, the record is staged (R113, R145). -/
theorem State.admit_of_full (window : s.table[r.channel].window = none) (full : 128 ≤ s.queue.list.length)
    (stall : s.settings.policy = .stall) :
    (s.evaluate r).2.admitRecord (s.evaluate r).1 = (.hold, s.withQueue { s.queue with staged := some r }) := by
  rw [State.evaluate_of_no_window window, State.admitRecord]
  refine (if_neg (Nat.not_lt.2 full)).trans ?_
  rw [stall]

/-- An acceptance on a fixed range, in a step that needs no step lock, leaves the channel and the lock (R61, R66). -/
theorem State.afterAcceptance_of_fixed (fixed : s.table[st.channel].range = .fixed range) :
    s.afterAcceptance st range wait ovr = { s.advance wait with
      conv := .idle
      ranging := { sampleRange := none, changes := 0, lock := s.ranging.lock } } := by
  rw [State.afterAcceptance, fixed]
  rfl

end

/-- Settles O47: the second part is the record of every EACH sample; the first is that on a fixed range with no window, by
the admission of the record and the scan state. -/
theorem fixedRangeSampleMakesARecord : Obligations.FixedRangeSampleMakesARecord := by
  refine ⟨?_, ?_⟩
  · intro s st range wait md c count ovr r converts delivers fixed each more window hr
    have accepts : s.Accepts st range count ovr false := .inl ⟨fixed, rfl⟩
    have notLast : decide (st.samples ≤ s.seq.sample) = false := decide_eq_false (Nat.not_le.2 more)
    have written := State.afterAcceptance_of_fixed (wait := wait) (ovr := ovr) fixed
    have window' : (s.numbered st range wait ovr).table[r.channel].window = none := by
      rw [State.numbered, written, hr]; exact window
    have scan : (s.advance wait).seq.scan = s.seq.scan := Sequencer.advance_scan _ _ _
    have goesOn {a : Admission} {v : State} (scanning : s.seq.scan = .running ∨ s.seq.scan = .pausing)
        (admitted : ((s.numbered st range wait ovr).evaluate r).2.admitRecord
          ((s.numbered st range wait ovr).evaluate r).1 = (a, v)) :=
      exec_each_goesOn converts scanning delivers accepts each hr admitted v .nextSample (by rw [notLast]; rfl)
        (by rw [notLast]; rfl)
    refine ⟨fun running room => ?_, fun pausing room => ?_, fun running full stall => ?_, fun pausing full stall => ?_⟩
    · obtain ⟨takes, -⟩ := goesOn (.inl running) (State.admit_of_room window' room)
      rw [takes (scan.trans running) rfl]
      have next := State.next_sample_in_place (wait := wait) (q := { (s.advance wait).seq with redo := false })
        (l := { s.queue with list := s.queue.list ++ [{ record := r, sent := false }]
                             nextSeq := s.queue.nextSeq + 1 })
        converts accepts (fun auto => nomatch fixed.symm.trans auto) (scan.trans running)
        (Sequencer.advance_step _ _ _) (Sequencer.advance_sample _ _ _)
      refine congrArg _ (next.trans ?_)
      rw [written]
      rfl
    · obtain ⟨-, -, -, pauses⟩ := goesOn (.inr pausing) (State.admit_of_room window' room)
      rw [pauses (scan.trans pausing) (.inr nofun), State.numbered, written]
      rfl
    · obtain ⟨-, holds, -⟩ := goesOn (.inl running) (State.admit_of_full window' full stall)
      rw [holds (scan.trans running) rfl, State.numbered, written]
      rfl
    · obtain ⟨-, -, -, pauses⟩ := goesOn (.inr pausing) (State.admit_of_full window' full stall)
      rw [pauses (scan.trans pausing) (.inl rfl), State.numbered, written]
      rfl
  · intro s u v st range wait md c count ovr hunt r a converts delivers scan each accepts hr hu admitted
    subst hu
    exact exec_each_goesOn converts scan delivers accepts each hr admitted.symm

end Sys2Proof.Machine
end

section
namespace Sys2Proof.Machine

/-! PROOFS. A MEAN step: its samples are added up, and its last gives the record of their truncated mean (R68, R88, R89). -/

/-! ## The records of a pass stay in a list with room (R87, R112) -/

@[simp] theorem State.startConversion_queue (s : State) : s.startConversion.queue = s.queue := by
  rcases s.startConversion_cases with h | ⟨st, -, -, -, -, h⟩ <;> rw [h]; rfl

@[simp] theorem State.connect_queue (t : Target) (s : State) : (s.connect t).queue = s.queue := by
  rcases s.connect_cases t with h | ⟨-, h⟩ | ⟨-, -, -, -, h⟩ <;> rw [h]
  · rfl
  · exact s.startConversion_queue

@[simp] theorem State.beginSample_queue (st : Step) (s : State) : (s.beginSample st).queue = s.queue :=
  State.connect_queue _ _

@[simp] theorem State.endPass_queue (s : State) : s.endPass.queue = s.queue := by
  unfold State.endPass; dsimp only; split
  · rfl
  · split <;> rfl

@[simp] theorem State.completeStep_queue (st : Step) (s : State) : (s.completeStep st).queue = s.queue := by
  rw [State.completeStep_marks]

/-- An evaluation leaves the result queue as it was (R147). -/
@[simp] theorem State.evaluate_queue (r : Record) (s : State) : (s.evaluate r).2.queue = s.queue := by
  rcases (s.evaluate_cases r).2 with h | ⟨-, h⟩ | ⟨-, h⟩ <;> rw [h] <;> rfl

/-- On a list with room for a record of every step to be started, the records in it stay where they are (R87, R112). -/
theorem startSteps_keeps_records (steps : List Step) : ∀ s : State, s.queue.list.length + steps.length ≤ 128 →
    s.queue.list <+: (startSteps steps s).queue.list := by
  induction steps with
  | nil => intro s _; rw [startSteps, State.endPass_queue]
  | cons st rest ih =>
    intro s room
    rw [List.length_cons] at room
    by_cases enabled : s.table[st.channel].enabled = true
    · rw [startSteps, if_pos enabled, State.beginSample_queue]; rfl
    · have made := State.produce_of_skipped (r := (s.withSeq { s.seq with sample := 0 }).skippedRecord st) rfl
        (s := s.withSeq { s.seq with sample := 0 }) (show s.queue.list.length < 128 by omega)
      rw [startSteps_skipped (Bool.not_eq_true _ ▸ enabled) made]
      refine List.IsPrefix.trans ?_ (ih _ ?_)
      · rw [State.withSeq_queue, State.completeStep_queue]
        exact ⟨_, rfl⟩
      · rw [State.withSeq_queue, State.completeStep_queue]
        simp only [List.length_append, List.length_singleton]
        exact (by omega : s.queue.list.length + 1 + rest.length ≤ 128)

/-- What comes after a step leaves the records in a list with room for one of every later step (R87, R91, R92). -/
theorem State.takeContinuation_afterStep_keeps_records {s : State} (inside : s.seq.step < s.list.length)
    (room : s.queue.list.length + s.list.length ≤ 128) :
    s.queue.list <+: (s.takeContinuation s.afterStep).queue.list := by
  rw [State.afterStep, ← startSteps_rest]
  refine startSteps_keeps_records _ (s.withSeq { s.seq with step := s.seq.step + 1 }) ?_
  rw [List.length_drop, State.withSeq_queue]
  omega

/-- After the last record of a step in RUNNING, on a list with room for one of every step, the list keeps its records (R87,
R91, R112). -/
theorem GoesOnAfterRecord.keeps_records {st : Step} {v : State} {out : Host.Outcome State Fault Refusal}
    (goesOn : GoesOnAfterRecord st true .goOn v out) (running : v.seq.scan = .running)
    (inside : v.seq.step < v.list.length) (room : v.queue.list.length + v.list.length ≤ 128) :
    ∃ t, out = .next t ∧ v.queue.list <+: t.queue.list := by
  obtain ⟨takes, -⟩ := goesOn (v.completeStep st) v.afterStep (State.completeStep_marks st v) rfl
  have afterStep : v.afterStep = (v.completeStep st).afterStep := by rw [State.completeStep_marks]; rfl
  have kept := State.takeContinuation_afterStep_keeps_records (s := v.completeStep st)
  rw [State.completeStep_queue, ← afterStep, State.completeStep_marks] at kept
  refine ⟨_, takes running rfl, ?_⟩
  rw [State.completeStep_marks]
  exact kept inside room

section
variable {s u v : State} {st : Step} {range wait : Nat} {md : Mode} {c : Instr} {count mean : Int} {ovr hunt : Bool}
  {r : Record} {a : Admission} {acc : MeanAcc}

/-! ## The accumulator (R68, R88) -/

/-- The accumulator with one more sample (R68). -/
def MeanAcc.add (acc : MeanAcc) (count : Int) (ovr hunt : Bool) : MeanAcc :=
  { sum := acc.sum + count, overrange := acc.overrange || ovr, hunt := acc.hunt || hunt }

/-- The state in which an accepted sample of a MEAN step has been added to the accumulator (R66, R68). -/
def State.summed (s : State) (st : Step) (range wait : Nat) (ovr : Bool) (acc : MeanAcc) : State :=
  (s.afterAcceptance st range wait ovr).withSeq { (s.advance wait).seq with acc := acc }

/-- A sample of a MEAN step is added up; before the last the next one follows, and the last gives the record (R88). -/
theorem State.takeSample_mean (meaned : st.mean = true) (x : Sample) (s : State) :
    s.takeSample st x
      = if s.seq.sample < st.samples
      then (s.withSeq { s.seq with acc := s.seq.acc.add x.count x.overrange x.hunt }).goOnWith .nextSample
      else (s.withSeq { s.seq with acc := s.seq.acc.add x.count x.overrange x.hunt }).deliver st true
        ((s.withSeq { s.seq with acc := s.seq.acc.add x.count x.overrange x.hunt }).meanRecord st x) := by
  rw [State.takeSample, if_pos meaned]
  rfl

/-- An acceptance leaves the accumulator for the sample to be added to. -/
theorem State.afterAcceptance_acc : (s.afterAcceptance st range wait ovr).seq.acc = s.seq.acc :=
  Sequencer.advance_acc _ _ _

theorem State.afterAcceptance_sample : (s.afterAcceptance st range wait ovr).seq.sample = s.seq.sample :=
  Sequencer.advance_sample _ _ _

/-- Before its last sample a MEAN step adds an accepted sample up and goes on with the next (R88). -/
theorem exec_mean_adds (converts : s.ConvertsFor st range) (scan : s.seq.scan = .running ∨ s.seq.scan = .pausing)
    (delivers : s.Delivers md c count ovr wait) (accepts : s.Accepts st range count ovr hunt) (meaned : st.mean = true)
    (more : s.seq.sample < st.samples) :
    exec c s = .next ((s.summed st range wait ovr (s.seq.acc.add count ovr hunt)).goOnWith .nextSample) := by
  rw [exec_accepts converts scan delivers accepts, State.takeSample_mean meaned, State.afterAcceptance_acc,
    State.afterAcceptance_sample, if_pos more]
  rfl

/-- In RUNNING the next sample begins at once on the connection in place, on the range of the accepted one (R68). -/
theorem exec_mean_running (converts : s.ConvertsFor st range) (running : s.seq.scan = .running)
    (delivers : s.Delivers md c count ovr wait) (accepts : s.Accepts st range count ovr hunt) (meaned : st.mean = true)
    (more : s.seq.sample < st.samples) (hacc : acc = s.seq.acc.add count ovr hunt) :
    exec c s = .next { s.afterAcceptance st range wait ovr with
      conv := s.startedOn st
      ranging := { (s.afterAcceptance st range wait ovr).ranging with sampleRange := some range }
      seq := { (s.advance wait).seq with sample := s.seq.sample + 1, cont := some .measure, acc := acc } } := by
  have scan : (s.advance wait).seq.scan = .running := (Sequencer.advance_scan _ _ _).trans running
  have next := State.next_sample_in_place (wait := wait) (q := { (s.advance wait).seq with acc := acc }) (l := s.queue)
    converts accepts (fun _ => meaned) scan (Sequencer.advance_step _ _ _) (Sequencer.advance_sample _ _ _)
  rw [exec_mean_adds converts (.inl running) delivers accepts meaned more, ← hacc,
    State.goOnWith_of_running (s := s.summed st range wait ovr acc) scan]
  exact congrArg _ next

/-- In PAUSING the scan is PAUSED before the next sample, with the step lock kept (R96). -/
theorem exec_mean_pausing (converts : s.ConvertsFor st range) (pausing : s.seq.scan = .pausing)
    (delivers : s.Delivers md c count ovr wait) (accepts : s.Accepts st range count ovr hunt) (meaned : st.mean = true)
    (more : s.seq.sample < st.samples) (hacc : acc = s.seq.acc.add count ovr hunt) :
    exec c s = .next { s.afterAcceptance st range wait ovr with
      matrix := .opened
      seq := { (s.advance wait).seq with
        scan := .paused, cont := none, resume := some (.within .nextSample), acc := acc } } := by
  have scan : (s.advance wait).seq.scan = .pausing := (Sequencer.advance_scan _ _ _).trans pausing
  rw [exec_mean_adds converts (.inr pausing) delivers accepts meaned more, ← hacc,
    State.goOnWith_nextSample_pausing (s := s.summed st range wait ovr acc) scan]
  rfl

/-! ## The record of the truncated mean (R68, R89) -/

/-- The record of a MEAN step: the measured record of its samples' mean (R68, R89). -/
def State.meanedRecord (s : State) (st : Step) (md : Mode) (range : Nat) (acc : MeanAcc) (time : Word32) : Record :=
  { s.measuredRecord st md range (acc.sum.tdiv st.samples) acc.overrange acc.hunt time with
    sample := st.samples
    flags := { overrange := acc.overrange, hunt := acc.hunt, fast := decide (md = .fast), mean := true,
               skipped := false, redone := s.seq.redo, trip := false } }

/-- A MEAN step records on the range of its samples: on AUTO its step lock is that range (R68). -/
theorem State.afterAcceptance_lock_getD (meaned : st.mean = true)
    (unlocked : s.table[st.channel].range ≠ .auto → s.ranging.lock = none) :
    (s.afterAcceptance st range wait ovr).ranging.lock.getD range = range := by
  rw [State.afterAcceptance]
  dsimp only
  by_cases auto : s.table[st.channel].range = .auto
  · rw [if_pos ⟨auto, meaned⟩]; rfl
  · rw [if_neg fun locks => auto locks.1, unlocked auto]; rfl

/-- The state in which the record of a MEAN step is evaluated: it has taken its number and the redo mark (R89). -/
def State.numberedMean (s : State) (st : Step) (range wait : Nat) (ovr : Bool) (acc : MeanAcc) : State :=
  { s.afterAcceptance st range wait ovr with
    seq := { (s.advance wait).seq with acc := acc, redo := false }
    queue := { s.queue with nextSeq := s.queue.nextSeq + 1 } }

/-- The record of a MEAN step takes its number from the state in which its last sample has been added up (R68, R89). -/
theorem State.assign_meanRecord (meaned : st.mean = true)
    (unlocked : s.table[st.channel].range ≠ .auto → s.ranging.lock = none) :
    (s.summed st range wait ovr acc).assign ((s.summed st range wait ovr acc).meanRecord st
      { count := count, range := range, overrange := ovr, hunt := hunt, fast := decide (md = .fast),
        function := s.table[st.channel].function })
      = (s.meanedRecord st md range acc (s.advance wait).seq.clockMs, s.numberedMean st range wait ovr acc) := by
  have lock : (s.summed st range wait ovr acc).ranging.lock.getD range = range :=
    State.afterAcceptance_lock_getD (wait := wait) (ovr := ovr) meaned unlocked
  have pass : (s.summed st range wait ovr acc).seq.pass = s.seq.pass := Sequencer.advance_pass _ _ _
  have step : (s.summed st range wait ovr acc).seq.step = s.seq.step := Sequencer.advance_step _ _ _
  have redo : (s.summed st range wait ovr acc).seq.redo = s.seq.redo := Sequencer.advance_redo _ _ _
  refine Prod.ext ?_ rfl
  rw [State.assign, State.meanRecord]
  dsimp only
  rw [lock, pass, step, redo]
  rfl

/-- The last sample of a MEAN step gives its one record, and the scan goes on or holds (R68, R88 to R96). -/
theorem exec_mean_goesOn (converts : s.ConvertsFor st range) (scan : s.seq.scan = .running ∨ s.seq.scan = .pausing)
    (delivers : s.Delivers md c count ovr wait) (accepts : s.Accepts st range count ovr hunt) (meaned : st.mean = true)
    (unlocked : s.table[st.channel].range ≠ .auto → s.ranging.lock = none) (last : st.samples ≤ s.seq.sample)
    (hacc : acc = s.seq.acc.add count ovr hunt) (hr : r = s.meanedRecord st md range acc (s.advance wait).seq.clockMs)
    (hu : u = s.numberedMean st range wait ovr acc)
    (admitted : (u.evaluate r).2.admitRecord (u.evaluate r).1 = (a, v)) :
    GoesOnAfterRecord st true a v (exec c s) := by
  have made : (s.summed st range wait ovr acc).produce ((s.summed st range wait ovr acc).meanRecord st
      { count := count, range := range, overrange := ovr, hunt := hunt, fast := decide (md = .fast),
        function := s.table[st.channel].function }) = (a, v) := by
    rw [State.produce, State.assign_meanRecord meaned unlocked, ← hr, ← hu]
    exact admitted
  rw [exec_accepts converts scan delivers accepts, State.takeSample_mean meaned, State.afterAcceptance_acc,
    State.afterAcceptance_sample, if_neg (Nat.not_lt.2 last), ← hacc]
  exact State.deliver_goesOn made

/-- On a list with room for a record of every step of the list, the record of a MEAN step that ends in RUNNING joins the
list, with or without its TRIP flag, and stays there (R68, R87, R112). -/
theorem exec_mean_recorded (converts : s.ConvertsFor st range) (running : s.seq.scan = .running)
    (delivers : s.Delivers md c count ovr wait) (accepts : s.Accepts st range count ovr hunt) (meaned : st.mean = true)
    (unlocked : s.table[st.channel].range ≠ .auto → s.ranging.lock = none) (last : st.samples ≤ s.seq.sample)
    (hacc : acc = s.seq.acc.add count ovr hunt) (hr : r = s.meanedRecord st md range acc (s.advance wait).seq.clockMs)
    (room : s.queue.list.length + s.list.length < 128) :
    ∃ t x, exec c s = .next t ∧ s.queue.list ++ [{ record := x, sent := false }] <+: t.queue.list
      ∧ (x = r ∨ x = { r with flags := { r.flags with trip := true } }) := by
  obtain ⟨u, hu⟩ : ∃ u, u = s.numberedMean st range wait ovr acc := ⟨_, rfl⟩
  have queue : (u.evaluate r).2.queue = { s.queue with nextSeq := s.queue.nextSeq + 1 } := by
    rw [State.evaluate_queue, hu]; rfl
  have admitted : (u.evaluate r).2.admitRecord (u.evaluate r).1
      = (.goOn, (u.evaluate r).2.withQueue ((u.evaluate r).2.queue.append (u.evaluate r).1)) := by
    rw [State.admitRecord]
    exact if_pos (by rw [queue]; exact (by omega : s.queue.list.length < 128))
  have seq : (u.evaluate r).2.seq = { (s.advance wait).seq with acc := acc, redo := false } := by
    rw [State.evaluate_seq, hu]; rfl
  have list : (u.evaluate r).2.list = s.list := by
    rw [(u.evaluate_around r).list, hu]; rfl
  have inside : s.seq.step < s.list.length := by obtain ⟨-, current, -⟩ := converts; exact lt_of_currentStep current
  have goesOn := exec_mean_goesOn converts (.inl running) delivers accepts meaned unlocked last hacc hr hu admitted
  obtain ⟨t, effect, kept⟩ := GoesOnAfterRecord.keeps_records goesOn
    (by rw [State.withQueue_seq, seq]; exact (Sequencer.advance_scan _ _ _).trans running)
    (by rw [State.withQueue_seq, State.withQueue_list, seq, list]
        exact (Sequencer.advance_step _ _ _).trans_lt inside)
    (by rw [State.withQueue_queue, State.withQueue_list, queue, list, ResultQueue.append, List.length_append,
          List.length_singleton]
        dsimp only
        omega)
  rw [State.withQueue_queue, queue] at kept
  exact ⟨t, (u.evaluate r).1, effect, kept, (u.evaluate_cases r).1⟩

end

/-- Settles O50: the second part by where the sample stands in its step; the first is that on a fixed range, where the
record joins a list with room and stays there. -/
theorem meanStepRecordsTheTruncatedMean : Obligations.MeanStepRecordsTheTruncatedMean := by
  refine ⟨?_, ?_⟩
  · intro s st range wait md c count ovr converts delivers running fixed meaned lock
    have accepts : s.Accepts st range count ovr false := .inl ⟨fixed, rfl⟩
    refine ⟨fun more => ?_, fun last room => ?_⟩
    · rw [exec_mean_running converts running delivers accepts meaned more rfl,
        State.afterAcceptance_of_fixed fixed, MeanAcc.add, Bool.or_false, lock]
      rfl
    · obtain ⟨t, x, effect, joined, record⟩ := exec_mean_recorded converts running delivers accepts meaned
        (fun _ => lock) last.ge rfl rfl room
      refine ⟨t, x, effect, joined, ?_⟩
      rcases record with rfl | rfl <;>
        exact ⟨rfl, rfl, rfl, rfl, rfl, rfl, rfl, rfl, rfl, rfl, rfl, Bool.or_false _, rfl, rfl, rfl⟩
  · intro s st range wait md c count ovr hunt acc converts delivers meaned accepts unlocked hacc
    refine ⟨fun more running => ?_, fun more pausing => ?_, fun u v mean r a last scan hmean hr hu admitted => ?_⟩
    · exact exec_mean_running converts running delivers accepts meaned more hacc
    · exact exec_mean_pausing converts pausing delivers accepts meaned more hacc
    · subst hmean
      exact exec_mean_goesOn converts scan delivers accepts meaned unlocked last hacc hr hu admitted.symm

end Sys2Proof.Machine
end

section
namespace Sys2Proof.Machine

/-! PROOFS. A change of range (R62, R63): range control asks for the neighbouring range, and the matrix breaks to it. -/

/-- The range R62's table wants: one up after an overrange below the highest range, one down after a low count above
range 0. -/
theorem wantedRange_eq_some {o : ConvOutcome} {range range' : Nat}
    (moves : o.overrange = true ∧ range < highestRange o.function ∧ range' = range + 1
      ∨ o.overrange = false ∧ o.count.natAbs < 360 ∧ 0 < range ∧ range' + 1 = range) :
    wantedRange o range = some range' := by
  unfold wantedRange
  rcases moves with ⟨exceeds, higher, rfl⟩ | ⟨within, low, lower, rfl⟩
  · rw [if_pos exceeds, if_pos higher]
  · rw [if_neg (ne_true_of_eq_false within), if_pos ⟨low, lower⟩, Nat.add_sub_cancel]

section
variable {s : State} {st : Step} {range range' : Nat}

/-- In RUNNING, with changes left to make, a wanted range is gone to (R62 to R64). -/
theorem State.judge_changes {o : ConvOutcome} (sample : s.ranging.sampleRange = some range) (may : s.mayRange st = true)
    (wants : wantedRange o range = some range') (running : s.seq.scan = .running) (left : s.ranging.changes < 4) :
    s.judge st o = s.changeRange st range' := by
  have looks : ¬(s.seq.scan = .pausing ∨ Config.maxChanges ≤ s.ranging.changes) :=
    not_or.2 ⟨by rw [running]; decide, Nat.not_le.2 left⟩
  rw [State.judge, if_pos may, sample, Option.getD_some, wants]
  exact if_neg looks

/-- A change to another range than the connected one breaks to it, and is counted (R43, R63). -/
theorem State.changeRange_breaks (rail : s.rail.state = .ready) (connected : s.matrix.phase = .connected)
    (selection : s.matrix.selection = some (s.table[st.channel].function, range)) (other : range' ≠ range) :
    s.changeRange st range' = { s with
      ranging := { sampleRange := some range', changes := s.ranging.changes + 1, lock := s.ranging.lock }
      matrix := s.breakingTo st range' } := by
  refine State.connect_elsewhere (s := s.withRanging _) (t := s.connectTarget st range') rail connected (.inr ?_)
  rw [State.withRanging_matrix, selection]
  exact fun same => other (congrArg Prod.snd (Option.some.inj same)).symm

end

/-- Settles O49: R62's table wants the neighbouring range, and the connection on the old one is broken. -/
theorem autoRangeMovesOneRangeAtATime : Obligations.AutoRangeMovesOneRangeAtATime := by
  intro s st range range' wait md c count ovr converts delivers running auto first left moves
  obtain ⟨live, current, phase, function, -, sample, connected, -, selection, rail⟩ := converts
  have other : range' ≠ range := by omega
  have matrix : (s.advance wait).matrix = s.matrix := Matrix.advance_of_connected connected
  have scan : (s.advance wait).seq.scan = .running := (Sequencer.advance_scan _ _ _).trans running
  have wants := wantedRange_eq_some
    (o := { count := count, overrange := ovr, mode := md, function := s.table[st.channel].function }) moves
  have taken := State.takeOutcome_of_scanning (s := (s.advance wait).withConv .idle)
    (o := { count := count, overrange := ovr, mode := md, function := s.table[st.channel].function })
    ((s.currentStep_advance wait).trans current) (.inl scan)
  have judged := State.judge_changes (s := (s.advance wait).withConv .idle) sample
    (State.mayRange_iff.2 ⟨auto, first⟩) wants scan left
  have broken := State.changeRange_breaks (s := (s.advance wait).withConv .idle) rail
    ((congrArg Matrix.phase matrix).trans connected) ((congrArg Matrix.selection matrix).trans selection) other
  rw [exec_delivers live phase function delivers]
  exact congrArg _ (taken.trans (judged.trans broken))

end Sys2Proof.Machine
end

section
namespace Sys2Proof.Machine

/-! PROOFS. PAUSE and RESUME by scan state (R95, R97). -/

/-! ## PAUSE (R95) -/

section
variable {s t : State} {token : Byte} {rest : List Frame}

theorem runPause_badLength {p : List Byte} (h : p ≠ []) (s : State) : runPause p s = refuse .badLength s :=
  if_pos (mt List.length_eq_zero_iff.1 h)

/-- PAUSE neither reads nor writes the link. -/
theorem State.pauseScan_leaveInbound (s : State) (rest : List Frame) :
    (s.leaveInbound rest).pauseScan = s.pauseScan.map fun t => t.leaveInbound rest := by
  unfold State.pauseScan
  rw [show (s.leaveInbound rest).seq = s.seq from rfl, show (s.leaveInbound rest).conv = s.conv from rfl]
  cases s.seq.scan with
  | running => dsimp only; split <;> rfl
  | _ => rfl

/-- A PAUSE that the scan can take answers DONE (R95). -/
theorem exec_pause_done (h : s.Executes { kind := 0x23, token := token, payload := [] } rest)
    (paused : s.pauseScan = some t) :
    exec .pause s = .next (t.answered { kind := 0x23, token := token, payload := [] } rest [0x00]) := by
  refine row_does h rfl ?_
  rw [runPause, State.pauseScan_leaveInbound, paused]
  rfl

/-- A PAUSE that finds no pass to stop is refused with BUSY (R95). -/
theorem exec_pause_busy (h : s.Executes { kind := 0x23, token := token, payload := [] } rest)
    (busy : s.pauseScan = none) :
    exec .pause s = .next (s.answered { kind := 0x23, token := token, payload := [] } rest [0x04]) := by
  refine (row_of_executes h rfl runPause).trans ?_
  rw [runPause, State.pauseScan_leaveInbound, busy]
  rfl

/-! ## RESUME (R97) -/

theorem runResume_badLength {p : List Byte} (h : p ≠ []) (s : State) : runResume p s = refuse .badLength s :=
  if_pos (mt List.length_eq_zero_iff.1 h)

/-- RESUME neither reads nor writes the link. -/
theorem State.resumePaused_leaveInbound (s : State) (rest : List Frame) :
    (s.leaveInbound rest).resumePaused = s.resumePaused.leaveInbound rest := by
  unfold State.resumePaused
  rw [show (s.leaveInbound rest).queue = s.queue from rfl, show (s.leaveInbound rest).seq = s.seq from rfl]
  cases s.queue.staged with
  | some r => cases s.seq.resume with
    | none => rfl
    | some p => cases p <;> rfl
  | none => cases s.seq.resume with
    | none => rfl
    | some p => cases p with
      | toArmed => rfl
      | within c =>
        dsimp only
        rw [State.leaveInbound, State.leaveInbound, State.takeContinuation_link]
        exact State.takeContinuation_withLink c (s.withSeq { s.seq with scan := .running, resume := none }) _

theorem State.resumeScan_leaveInbound (s : State) (rest : List Frame) :
    (s.leaveInbound rest).resumeScan = s.resumeScan.map fun t => t.leaveInbound rest := by
  unfold State.resumeScan
  rw [show (s.leaveInbound rest).seq = s.seq from rfl]
  cases s.seq.scan with
  | paused => exact congrArg some (s.resumePaused_leaveInbound rest)
  | _ => rfl

/-- A RESUME that the scan can take answers DONE (R97). -/
theorem exec_resume_done (h : s.Executes { kind := 0x24, token := token, payload := [] } rest)
    (resumed : s.resumeScan = some t) :
    exec .resume s = .next (t.answered { kind := 0x24, token := token, payload := [] } rest [0x00]) := by
  refine row_does h rfl ?_
  rw [runResume, State.resumeScan_leaveInbound, resumed]
  rfl

/-- A RESUME that finds no paused pass is refused with BUSY (R97). -/
theorem exec_resume_busy (h : s.Executes { kind := 0x24, token := token, payload := [] } rest)
    (busy : s.resumeScan = none) :
    exec .resume s = .next (s.answered { kind := 0x24, token := token, payload := [] } rest [0x04]) := by
  refine (row_of_executes h rfl runResume).trans ?_
  rw [runResume, State.resumeScan_leaveInbound, busy]
  rfl

/-- In PAUSED the resume point decides (R97). -/
theorem State.resumeScan_of_paused (scan : s.seq.scan = .paused) : s.resumeScan = some s.resumePaused := by
  rw [State.resumeScan, scan]

/-- While a record is staged, a resume point within the pass becomes the continuation of a HELD scan (R97). -/
theorem State.resumePaused_of_staged {r : Record} {c : Continuation} (staged : s.queue.staged = some r)
    (resume : s.seq.resume = some (.within c)) :
    s.resumePaused = s.withSeq { s.seq with scan := .held, cont := some c, resume := none } := by
  rw [State.resumePaused, staged, resume]

/-- With the slot empty the scan is ARMED again where it was PAUSED to ARMED (R97). -/
theorem State.resumePaused_to_armed (staged : s.queue.staged = none) (resume : s.seq.resume = some .toArmed) :
    s.resumePaused = s.withSeq { s.seq with scan := .armed, resume := none } := by
  rw [State.resumePaused, staged, resume]

/-- With the slot empty a resume point within the pass is taken in RUNNING (R97). -/
theorem State.resumePaused_within {c : Continuation} (staged : s.queue.staged = none)
    (resume : s.seq.resume = some (.within c)) :
    s.resumePaused = (s.withSeq { s.seq with scan := .running, resume := none }).takeContinuation c := by
  rw [State.resumePaused, staged, resume]

/-- A resume point that begins a sample of an enabled step breaks from the open matrix to the step's channel, on the range
that R60 gives the sample (R42, R60, R97). -/
theorem State.takeContinuation_breaks {c : Continuation} {st : Step} {step sample range : Nat}
    (point : c = .nextSample ∧ step = s.seq.step ∧ sample = s.seq.sample + 1
      ∨ c = .redoStep ∧ step = s.seq.step ∧ sample = 1 ∧ s.table[st.channel].enabled = true
      ∨ c = .nextStep ∧ step = s.seq.step + 1 ∧ sample = 1 ∧ s.table[st.channel].enabled = true)
    (current : s.list[step]? = some st) (opened : s.matrix.phase = .opened) (rail : s.rail.state = .ready)
    (first : s.firstRange st = range) :
    s.takeContinuation c = { s with
      seq := { s.seq with step := step, sample := sample, cont := some .measure }
      ranging := { sampleRange := some range, changes := 0, lock := s.ranging.lock }
      matrix := s.breakingTo st range } := by
  have begins : s.takeContinuation c = (s.withSeq { s.seq with step := step, sample := sample }).beginSample st := by
    rcases point with ⟨rfl, rfl, rfl⟩ | ⟨rfl, rfl, rfl, enabled⟩ | ⟨rfl, rfl, rfl, enabled⟩
    · exact State.takeContinuation_begins current (.inl ⟨rfl, rfl⟩)
    · exact State.takeContinuation_begins current (.inr ⟨rfl, enabled, rfl⟩)
    · exact State.takeContinuation_begins (s := s.withSeq { s.seq with step := s.seq.step + 1 }) current
        (.inr ⟨rfl, enabled, rfl⟩)
  rw [begins]
  exact State.beginSample_breaks (s := s.withSeq _) rail first (.inl opened)

end

/-- Settles O30: a payload is refused, and otherwise the scan state decides. -/
theorem pauseActsByScanState : Obligations.PauseActsByScanState := by
  intro s token p rest h
  refine ⟨fun hp => row_refuses h rfl (runPause_badLength hp), ?_, ?_, ?_, fun c => ?_, ?_, ?_⟩ <;> rintro rfl scan
  · intro busy
    exact exec_pause_done h (by rw [State.pauseScan, scan]; exact if_neg busy)
  · intro idle
    exact exec_pause_done h (by rw [State.pauseScan, scan]; exact if_pos idle)
  · exact exec_pause_done h (by rw [State.pauseScan, scan])
  · intro cont
    exact exec_pause_done h (by rw [State.pauseScan, scan, cont]; rfl)
  · exact exec_pause_done h (by rcases scan with scan | scan <;> rw [State.pauseScan, scan])
  · exact exec_pause_busy h (by rcases scan with scan | scan <;> rw [State.pauseScan, scan])

/-- Settles O31: a payload is refused, and otherwise the scan state decides, and in PAUSED the slot and the resume point. -/
theorem resumeActsByScanState : Obligations.ResumeActsByScanState := by
  intro s token p rest h
  refine ⟨fun hp => row_refuses h rfl (runResume_badLength hp), ?_, fun c r => ?_, ?_, fun st range => ?_, fun c => ?_,
    fun c st step sample range => ?_, ?_, ?_⟩ <;> rintro rfl scan
  · exact exec_resume_done h (by rw [State.resumeScan, scan])
  · intro staged resume
    rw [exec_resume_done h (State.resumeScan_of_paused scan), State.resumePaused_of_staged staged resume]
  · intro staged resume
    rw [exec_resume_done h (State.resumeScan_of_paused scan), State.resumePaused_to_armed staged resume]
  · intro staged resume current saved opened rail
    have taken := State.takeContinuation_measure (s := s.withSeq { s.seq with scan := .running, resume := none }) current
      saved opened rail
    rw [exec_resume_done h (State.resumeScan_of_paused scan), State.resumePaused_within staged resume, taken]
    rfl
  · intro staged resume
    rw [exec_resume_done h (State.resumeScan_of_paused scan), State.resumePaused_within staged resume]
  · intro staged resume point current opened rail first
    have taken := State.takeContinuation_breaks (s := s.withSeq { s.seq with scan := .running, resume := none }) point
      current opened rail first.symm
    rw [exec_resume_done h (State.resumeScan_of_paused scan), State.resumePaused_within staged resume, taken]
    rfl
  · exact exec_resume_done h (by rw [State.resumeScan, scan])
  · exact exec_resume_busy h (by rcases scan with scan | scan | scan | scan <;> rw [State.resumeScan, scan])

end Sys2Proof.Machine
end

section
namespace Sys2Proof.Machine

/-! PROOFS. The start of a pass (R82). -/

section
variable {s : State}

/-- The pace condition of FREE: the first pass, or at least 1 ms on the scan clock since the last pass start (R82). -/
theorem State.paceHolds_eq (s : State) : s.paceHolds = match s.settings.pace with
    | .free => decide (s.seq.pass = 0 ∨ s.seq.clockMs ≠ s.seq.passStart)
    | .timed => decide (s.seq.pass = 0) || s.seq.paceDue
    | .triggered => s.seq.latch := by
  have moved : 1 ≤ (s.seq.clockMs - s.seq.passStart).toNat ↔ s.seq.clockMs ≠ s.seq.passStart := by bv_omega
  unfold State.paceHolds
  cases s.settings.pace with
  | free => rw [Bool.decide_or, decide_eq_decide.2 moved]
  | _ => rfl

/-- A pass number goes up by one, and 65535 wraps to 1 (R82). -/
theorem nextPass_eq {n : Nat} (h : n ≤ 65535) : nextPass n = if n = 65535 then 1 else n + 1 :=
  if_congr (by omega) rfl rfl

/-- The sequencer as a pass starts (R82): the pass is numbered, the latch and the pace-due mark are consumed, the pace
timer restarts under TIMED, and step 0 is to be started. -/
def State.passStarted (s : State) : State := s.withSeq { s.seq with
  scan := .running, pass := if s.seq.pass = 65535 then 1 else s.seq.pass + 1, passStart := s.seq.clockMs
  step := 0, latch := false, paceDue := false, cont := some .redoStep
  paceTimer := if s.settings.pace = .timed then some 0 else s.seq.paceTimer }

/-- An ARMED scan with the rail READY and the pace condition holding starts its pass (R82). -/
theorem State.startPass_of_ready (armed : s.seq.scan = .armed) (rail : s.rail.state = .ready)
    (paced : s.paceHolds = true) (bound : s.seq.pass ≤ 65535) :
    s.startPass = s.passStarted.takeContinuation .redoStep := by
  rw [State.startPass, if_pos ⟨armed, rail, paced⟩, nextPass_eq bound]
  rfl

/-- Short of any of the three no pass starts (R82). -/
theorem State.startPass_of_not (short : s.seq.scan ≠ .armed ∨ s.rail.state ≠ .ready ∨ s.paceHolds = false) :
    s.startPass = s := by
  rw [State.startPass, if_neg]
  rintro ⟨armed, rail, paced⟩
  rcases short with h | h | h
  · exact h armed
  · exact h rail
  · exact Bool.false_ne_true (h.symm.trans paced)

end

/-- Settles O53: without one of the three conditions nothing happens; with them the start of step 0 is taken, which for an
enabled channel connects its first sample. -/
theorem passStartsWhenRailAndPaceAreReady : Obligations.PassStartsWhenRailAndPaceAreReady := by
  intro s paced live hpaced
  have holds : s.paceHolds = paced := (State.paceHolds_eq s).trans hpaced.symm
  have effect : exec .passStart s = .next s.startPass := whileLive_of_live live _
  have starts (armed : s.seq.scan = .armed) (rail : s.rail.state = .ready) (ready : paced = true)
      (bound : s.seq.pass ≤ 65535) : exec .passStart s = .next (s.passStarted.takeContinuation .redoStep) := by
    rw [effect, State.startPass_of_ready armed rail (holds.trans ready) bound]
  refine ⟨fun short => ?_, fun u armed rail ready bound hu => ?_,
    fun st more range armed rail ready list enabled opened unlocked bound hrange => ?_⟩
  · rw [← holds] at short
    rw [effect, State.startPass_of_not short]
  · rw [hu]
    exact starts armed rail ready bound
  · have current : s.passStarted.currentStep = some st := by
      show s.list[0]? = some st
      rw [list]; rfl
    rw [starts armed rail ready bound,
      State.takeContinuation_redoStep_enabled current enabled rail opened unlocked hrange]
    rfl

end Sys2Proof.Machine
end

section
namespace Sys2Proof.Machine

/-! PROOFS. The scan list and its settings: LIST_CLEAR, LIST_APPEND, LIST_READ and SCAN_SET (R74 to R77). -/

/-- A row whose request is refused in the state it finds answers the outcome byte alone and changes nothing else (R181). -/
theorem row_refuses_here {s : State} {kind token : Byte} {p : List Byte} {rest : List Frame} {row : List Byte → Bool}
    {run : List Byte → State → Execution} (h : s.Executes { kind := kind, token := token, payload := p } rest)
    (hrow : row p = true) {o : ReplyOutcome} (hrun : run p (s.leaveInbound rest) = refuse o (s.leaveInbound rest)) :
    whileLive s (State.serve kind row run)
      = .next (s.answered { kind := kind, token := token, payload := p } rest [o.byte]) := by
  rw [row_of_executes h hrow, hrun, finish_refuse]

/-! ## LIST_CLEAR (R74) -/

theorem runListClear_badLength {p : List Byte} (h : p ≠ []) (s : State) : runListClear p s = refuse .badLength s :=
  if_pos (mt List.length_eq_zero_iff.1 h)

theorem runListClear_nil (s : State) :
    runListClear [] s = if s.seq.scan ≠ .idle then refuse .busy s else replyDone [] (s.withList []) :=
  if_neg (not_not_intro rfl)

/-- Settles O24: the length is looked at first, and then the scan state. -/
theorem listClearEmptiesTheListInIdle : Obligations.ListClearEmptiesTheListInIdle := by
  intro s token p rest h
  refine ⟨fun hp => row_refuses h rfl (runListClear_badLength hp), ?_, ?_⟩ <;> rintro rfl scan
  · exact row_refuses_here h rfl ((runListClear_nil _).trans (if_pos scan))
  · exact row_does (t := s.withList []) h rfl ((runListClear_nil _).trans (if_neg (not_not_intro scan)))

/-! ## The two bytes of a step (R196) -/

/-- The options byte of a step as a number: its samples, and the MEAN and MARK bits (R196). -/
def Step.options (st : Step) : Nat := st.samples + (if st.mean then 32 else 0) + (if st.mark then 64 else 0)

theorem stepBytes_eq (st : Step) : stepBytes st = [byteOf st.channel, byteOf st.options] := rfl

/-- What the options byte of a legal step holds: it fits a byte, with bit 7 clear (R73, R196). -/
theorem Step.options_fields {st : Step} (legal : st.Legal) :
    st.options < 128 ∧ st.options % 32 = st.samples ∧ (st.options / 32 % 2 = 1 ↔ st.mean = true)
      ∧ (st.options / 64 % 2 = 1 ↔ st.mark = true) := by
  obtain ⟨-, most⟩ := legal
  rw [Step.options]
  cases st.mean <;> cases st.mark <;> simp <;> omega

/-- A bit of a byte, read off its number. -/
theorem getLsbD_byteOf {n i : Nat} {b : Bool} (h : i < 8) (bit : n / 2 ^ i % 2 = 1 ↔ b = true) :
    (byteOf n).getLsbD i = b := by
  rw [byteOf, BitVec.getLsbD_ofNat, decide_eq_true h, Bool.true_and, Nat.testBit_eq_decide_div_mod_eq]
  exact Bool.eq_iff_iff.2 (decide_eq_true_iff.trans bit)

/-! ## LIST_READ (R76) -/

/-- The steps of a LIST_READ reply stand each behind its index (R196). -/
theorem indexedStepBytes_eq (l : List Step) : ∀ i : Nat,
    indexedStepBytes i l = (l.zipIdx i).flatMap fun e => byteOf e.2 :: stepBytes e.1 := by
  induction l with
  | nil => exact fun _ => rfl
  | cons st rest ih => intro i; simp [indexedStepBytes, ih]

theorem runListRead_badLength {p : List Byte} (h : p.length ≠ 2) (s : State) : runListRead p s = refuse .badLength s :=
  if_pos h

/-- A request of two bytes is refused or done by the count and the start (R76). -/
theorem runListRead_pair (first count : Byte) (s : State) : runListRead [first, count] s
    = if count.toNat = 0 ∨ 16 < count.toNat ∨ s.list.length ≤ first.toNat then refuse .badValue s
      else replyDone (byteOf s.list.length
        :: (((s.list.drop first.toNat).take count.toNat).zipIdx first.toNat).flatMap
            fun e => byteOf e.2 :: stepBytes e.1) s := by
  rw [← indexedStepBytes_eq]
  exact if_neg (not_not_intro rfl)

/-- Settles O26: the options byte by its fields, and the request by its length, its values and the list's length. -/
theorem listReadReturnsTheSteps : Obligations.ListReadReturnsTheSteps := by
  refine ⟨fun st legal => ?_, fun s token p rest h => ⟨fun hl => row_refuses h rfl (runListRead_badLength hl), ?_⟩⟩
  · obtain ⟨small, samples, mean, mark⟩ := Step.options_fields legal
    refine ⟨byteOf st.options, stepBytes_eq st, ?_, ?_, ?_, ?_⟩
    · rw [byteOf_toNat (by omega), samples]
    · exact getLsbD_byteOf (by decide) mean
    · exact getLsbD_byteOf (by decide) mark
    · exact getLsbD_byteOf (by decide) (by simp only [Nat.reducePow, Nat.div_eq_of_lt small]; decide)
  · rintro first count rfl
    have run := runListRead_pair first count (s.leaveInbound rest)
    refine ⟨fun bad => row_refuses_here h rfl (run.trans (if_pos bad)), fun least most inside => ?_⟩
    have legal : ¬(count.toNat = 0 ∨ 16 < count.toNat ∨ s.list.length ≤ first.toNat) := by omega
    exact row_does (t := s) h rfl (run.trans (if_neg legal))

/-! ## LIST_APPEND (R75) -/

/-- A payload is refused for its length exactly when it is odd, empty, or longer than 16 steps (R75). -/
theorem appendLength_eq_false (n : Nat) : appendLength n = false ↔ n % 2 = 1 ∨ n = 0 ∨ 32 < n := by
  simp [appendLength]; omega

/-- The bytes of a payload are taken two by two (R196). -/
theorem stepRecords_flatMap (raw : List (Byte × Byte)) :
    stepRecords (raw.flatMap fun e => [e.1, e.2]) = raw.map fun e => (e.1.toNat, e.2.toNat) := by
  induction raw with
  | nil => rfl
  | cons e rest ih => simpa [stepRecords] using ih

/-- Two-byte records make a payload of a legal length when there are 1 to 16 of them (R75). -/
theorem appendLength_flatMap {raw : List (Byte × Byte)} (least : 1 ≤ raw.length) (most : raw.length ≤ 16) :
    appendLength (raw.flatMap fun e => [e.1, e.2]).length = true := by
  simp [appendLength]; omega

/-- A record is refused for its field values when its sample count is not 1 to 16 or its bit 7 is set (R75, R196). -/
theorem decodeStep_eq_none {r : Nat × Nat} (illegal : r.2 % 32 = 0 ∨ 16 < r.2 % 32 ∨ 128 ≤ r.2) :
    decodeStep r = none := by
  unfold decodeStep
  split
  · rfl
  · exact if_neg (by omega)

/-- The two bytes of a legal step are read back as the step (R196). -/
theorem decodeStep_record {st : Step} (legal : st.Legal) : decodeStep (st.channel, st.options) = some st := by
  obtain ⟨small, samples, mean, mark⟩ := Step.options_fields legal
  obtain ⟨least, most⟩ := legal
  rw [decodeStep, channelOf_of_lt st.channel.isLt]
  dsimp only
  rw [samples, if_pos ⟨least, most, small⟩]
  simp [mean, mark]

/-- One refused record refuses them all (R75). -/
theorem decodeSteps_eq_none {l : List (Nat × Nat)} (h : ∃ r ∈ l, decodeStep r = none) : decodeSteps l = none := by
  induction l with
  | nil => simp at h
  | cons r rest ih =>
    rw [decodeSteps]
    cases hr : decodeStep r with
    | none => rfl
    | some st =>
      have later : decodeSteps rest = none := ih (by simpa [hr] using h)
      rw [later]

/-- The records of legal steps are read back as the steps, in their order (R75, R196). -/
theorem decodeSteps_records {steps : List Step} (legal : ∀ st ∈ steps, st.Legal) :
    decodeSteps (steps.map fun st => ((st.channel : Nat), st.options)) = some steps := by
  induction steps with
  | nil => rfl
  | cons st rest ih =>
    have here := decodeStep_record (legal st (by simp))
    have later := ih fun x hx => legal x (by simp [hx])
    rw [List.map_cons, decodeSteps, here, later]

section
variable {p : List Byte} {s : State}

theorem runListAppend_badLength (h : appendLength p.length = false) (s : State) :
    runListAppend p s = refuse .badLength s := if_pos h

theorem runListAppend_noChannel (hl : appendLength p.length = true) (hc : ∃ r ∈ stepRecords p, 24 ≤ r.1) (s : State) :
    runListAppend p s = refuse .noChannel s := by
  rw [runListAppend, if_neg (by simp [hl]), if_pos (by simpa using hc)]

theorem runListAppend_badValue (hl : appendLength p.length = true) (hc : ∀ r ∈ stepRecords p, r.1 < 24)
    (hd : decodeSteps (stepRecords p) = none) (s : State) : runListAppend p s = refuse .badValue s := by
  rw [runListAppend, if_neg (by simp [hl]), if_neg (by simpa using hc), hd]

/-- A request of legal steps is refused or done by the scan state and the room in the list (R75). -/
theorem runListAppend_of_steps (hl : appendLength p.length = true) (hc : ∀ r ∈ stepRecords p, r.1 < 24)
    {steps : List Step} (hd : decodeSteps (stepRecords p) = some steps) (s : State) :
    runListAppend p s = if s.seq.scan ≠ .idle then refuse .busy s
      else if 64 < s.list.length + steps.length then refuse .listFull s
      else replyDone [] (s.withList (s.list ++ steps)) := by
  rw [runListAppend, if_neg (by simp [hl]), if_neg (by simpa using hc), hd]
  rfl

end

/-- The payload of some steps, as pairs of bytes (R196). -/
theorem flatMap_stepBytes (steps : List Step) : steps.flatMap stepBytes
    = (steps.map fun st => (byteOf st.channel, byteOf st.options)).flatMap fun e => [e.1, e.2] := by
  rw [List.flatMap_map]; rfl

/-- The records of legal steps are their channels and options (R196). -/
theorem stepRecords_stepBytes {steps : List Step} (legal : ∀ st ∈ steps, st.Legal) :
    stepRecords (steps.flatMap stepBytes) = steps.map fun st => ((st.channel : Nat), st.options) := by
  rw [flatMap_stepBytes, stepRecords_flatMap, List.map_map]
  refine List.map_congr_left fun st hst => ?_
  obtain ⟨small, -⟩ := Step.options_fields (legal st hst)
  exact Prod.ext (byteOf_toNat (by omega)) (byteOf_toNat (by omega))

/-- Settles O25: the payload of legal steps decodes to them, and what is no such payload is refused in the order of the
checks. -/
theorem listAppendAddsTheStepsInOrder : Obligations.ListAppendAddsTheStepsInOrder := by
  refine ⟨fun s token steps rest least most legal h => ?_, fun s token p rest h => ⟨fun hl => ?_, ?_⟩⟩
  · have records := stepRecords_stepBytes legal
    have length : appendLength (steps.flatMap stepBytes).length = true := by
      rw [flatMap_stepBytes]; exact appendLength_flatMap (by simpa using least) (by simpa using most)
    have channels : ∀ r ∈ stepRecords (steps.flatMap stepBytes), r.1 < 24 := by
      rw [records]; simp
    have decoded : decodeSteps (stepRecords (steps.flatMap stepBytes)) = some steps := by
      rw [records]; exact decodeSteps_records legal
    have run := runListAppend_of_steps length channels decoded (s.leaveInbound rest)
    refine ⟨fun busy => row_refuses_here h rfl (run.trans (if_pos busy)), fun idle full => ?_, fun idle room => ?_⟩ <;>
      replace run := run.trans (if_neg (not_not_intro idle))
    · exact row_refuses_here h rfl (run.trans (if_pos full))
    · exact row_does (t := s.withList (s.list ++ steps)) h rfl (run.trans (if_neg (not_lt.2 room)))
  · exact row_refuses h rfl (runListAppend_badLength ((appendLength_eq_false _).2 hl))
  · rintro raw rfl least most
    have length := appendLength_flatMap least most
    have records := stepRecords_flatMap raw
    refine ⟨fun ⟨e, he, hc⟩ => ?_, fun hc ⟨e, he, illegal⟩ => ?_⟩
    · refine row_refuses h rfl (runListAppend_noChannel length ?_)
      rw [records]
      exact ⟨_, List.mem_map_of_mem he, hc⟩
    · refine row_refuses h rfl (runListAppend_badValue length ?_ (decodeSteps_eq_none ?_)) <;> rw [records]
      · exact List.forall_mem_map.2 hc
      · exact ⟨_, List.mem_map_of_mem he, decodeStep_eq_none illegal⟩

/-! ## SCAN_SET (R77) -/

/-- The pace codes are 0 to 2 (R192). -/
theorem Pace.ofCode_eq_none {b : Nat} (h : 2 < b) : Pace.ofCode b = none := by
  match b, h with
  | n + 3, _ => rfl

/-- The policy codes are 0 to 2 (R192). -/
theorem Policy.ofCode_eq_none {b : Nat} (h : 2 < b) : Policy.ofCode b = none := by
  match b, h with
  | n + 3, _ => rfl

theorem Byte.eq_of_le_two {b : Byte} (h : b.toNat ≤ 2) : b = 0 ∨ b = 1 ∨ b = 2 := by bv_omega

/-- The pace that a legal byte names (R192). -/
theorem Pace.ofCode_byte {b : Byte} (h : b.toNat ≤ 2) :
    Pace.ofCode b.toNat = some (if b = 0 then .free else if b = 1 then .timed else .triggered) := by
  rcases Byte.eq_of_le_two h with rfl | rfl | rfl <;> rfl

/-- The policy that a legal byte names (R192). -/
theorem Policy.ofCode_byte {b : Byte} (h : b.toNat ≤ 2) :
    Policy.ofCode b.toNat = some (if b = 0 then .stall else if b = 1 then .dropOldest else .dropNewest) := by
  rcases Byte.eq_of_le_two h with rfl | rfl | rfl <;> rfl

section
variable {p : List Byte} {now : Settings}

/-- The settings of a SCAN_SET are refused for the pace, the policy, or a TIMED interval out of its range (R77). -/
theorem decodeScanSettings_eq_none (h : 2 < field8 p 0 ∨ 2 < field8 p 7
    ∨ field8 p 0 = 1 ∧ (field32 p 1 < 10 ∨ 600000 < field32 p 1)) : decodeScanSettings p now = none := by
  unfold decodeScanSettings
  rcases h with pace | policy | ⟨timed, interval⟩
  · rw [Pace.ofCode_eq_none pace]
  · rw [Policy.ofCode_eq_none policy]
    cases Pace.ofCode (field8 p 0) with
    | none => rfl
    | some a => cases a <;> rfl
  · rw [timed]
    cases Policy.ofCode (field8 p 7) with
    | none => rfl
    | some policy => exact if_neg (by omega)

/-- Legal settings are taken as they stand, the interval only with TIMED (R77). -/
theorem decodeScanSettings_eq_some {pace : Pace} {policy : Policy} (hpace : Pace.ofCode (field8 p 0) = some pace)
    (hpolicy : Policy.ofCode (field8 p 7) = some policy)
    (interval : pace = .timed → 10 ≤ field32 p 1 ∧ field32 p 1 ≤ 600000) :
    decodeScanSettings p now = some {
      pace := pace
      interval := if pace = .timed then field32 p 1 else now.interval
      passes := field16 p 5
      policy := policy } := by
  unfold decodeScanSettings
  rw [hpace, hpolicy]
  cases pace with
  | timed => exact if_pos (interval rfl)
  | _ => rfl

end

theorem runScanSet_badLength {p : List Byte} (h : p.length ≠ 8) (s : State) : runScanSet p s = refuse .badLength s :=
  if_pos h

section
variable {p : List Byte} {s : State}

theorem runScanSet_badValue (hl : p.length = 8) (hd : decodeScanSettings p s.settings = none) :
    runScanSet p s = refuse .badValue s := by
  rw [runScanSet, if_neg (not_not_intro hl), hd]

theorem runScanSet_busy (hl : p.length = 8) {c : Settings} (hd : decodeScanSettings p s.settings = some c)
    (busy : s.seq.scan ≠ .idle) : runScanSet p s = refuse .busy s := by
  rw [runScanSet, if_neg (not_not_intro hl), hd]
  exact if_pos busy

theorem runScanSet_done (hl : p.length = 8) {c : Settings} (hd : decodeScanSettings p s.settings = some c)
    (idle : s.seq.scan = .idle) : runScanSet p s = replyDone [] (s.withSettings c) := by
  rw [runScanSet, if_neg (not_not_intro hl), hd]
  exact if_neg (not_not_intro idle)

end

/-- Settles O27: a payload of eight bytes decodes to the settings it carries, or to none when a value is illegal. -/
theorem scanSetWritesTheSettings : Obligations.ScanSetWritesTheSettings := by
  refine ⟨fun s token p rest hl h => row_refuses h rfl (runScanSet_badLength hl), ?_⟩
  intro s token pace i3 i2 i1 i0 n1 n0 policy rest h interval passes hinterval hpasses
  have readInterval : field32 [pace, i3, i2, i1, i0, n1, n0, policy] 1 = interval :=
    (field32_append [pace] i3 i2 i1 i0 [n1, n0, policy]).trans hinterval.symm
  have readPasses : field16 [pace, i3, i2, i1, i0, n1, n0, policy] 5 = passes := hpasses.symm
  refine ⟨fun illegal => row_refuses_here h rfl (runScanSet_badValue rfl (decodeScanSettings_eq_none ?_)), ?_⟩
  · rw [readInterval]
    exact illegal.imp_right (Or.imp_right (And.imp_left fun timed => by rw [timed]; rfl))
  · intro legalPace legalPolicy legalInterval
    have timed : (if pace = 0 then Pace.free else if pace = 1 then .timed else .triggered) = .timed ↔ pace = 1 := by
      rcases Byte.eq_of_le_two legalPace with rfl | rfl | rfl <;> decide
    have decoded := decodeScanSettings_eq_some (p := [pace, i3, i2, i1, i0, n1, n0, policy]) (now := s.settings)
      (Pace.ofCode_byte legalPace :) (Policy.ofCode_byte legalPolicy :)
      (by rw [timed, readInterval]; exact legalInterval)
    simp only [readInterval, readPasses, timed] at decoded
    exact ⟨fun busy => row_refuses_here h rfl (runScanSet_busy rfl decoded busy),
      fun idle => row_does (t := s.withSettings _) h rfl (runScanSet_done rfl decoded idle)⟩

end Sys2Proof.Machine
end

section
namespace Sys2Proof.Machine

/-! PROOFS. STATUS, and the scan control that START, TRIG and TRIGGER exert (R79, R81, R85, R187). -/

/-! ## STATUS (R79, R158, R187) -/

/-- The bits of a sum of different powers of two are those of its exponents. -/
theorem testBit_sum_two_pow {l : List Nat} (sorted : l.SortedLT) (i : Nat) :
    (l.map (2 ^ ·)).sum.testBit i = true ↔ i ∈ l := by
  rw [← Nat.mem_bitIndices, Nat.bitIndices_sum_map_two_pow sorted]

/-- The nine kinds stand in the order of their numbers (R159). -/
theorem eventKinds_sorted : (eventKinds.map EventKind.number).SortedLT := by decide

/-- The numbers of the pending kinds, in kind order (R158). -/
def EventTable.pendingNumbers (t : EventTable) : List Nat :=
  (eventKinds.filter fun k => (t.get k).pending).map EventKind.number

theorem EventTable.pendingNumbers_sorted (t : EventTable) : t.pendingNumbers.SortedLT :=
  (eventKinds_sorted.pairwise.sublist (List.filter_sublist.map _)).sortedLT

theorem EventTable.mem_pendingNumbers (t : EventTable) (n : Nat) :
    n ∈ t.pendingNumbers ↔ ∃ k : EventKind, (t.get k).pending = true ∧ k.number = n := by
  simp [EventTable.pendingNumbers]

/-- The mask of the pending kinds is the sum of the powers of their numbers (R158, R192). -/
theorem EventTable.pendingSet_eq (t : EventTable) :
    t.pendingSet = BitVec.ofNat 16 (t.pendingNumbers.map (2 ^ ·)).sum := by
  have skip (l : List EventKind) : (l.map fun k => if (t.get k).pending then 2 ^ k.number else 0).sum
      = (((l.filter fun k => (t.get k).pending).map EventKind.number).map (2 ^ ·)).sum := by
    induction l with
    | nil => rfl
    | cons k rest ih => cases hk : (t.get k).pending <;> simp [hk, ih]
  rw [EventTable.pendingSet, skip]; rfl

theorem EventKind.number_injective : Function.Injective EventKind.number := by
  intro j k; cases j <;> cases k <;> decide

/-- A bit of the mask is set exactly for the number of a pending kind (R158, R192). -/
theorem EventTable.getLsbD_pendingSet (t : EventTable) (n : Nat) :
    t.pendingSet.getLsbD n = true ↔ n < 16 ∧ ∃ k : EventKind, (t.get k).pending = true ∧ k.number = n := by
  rw [t.pendingSet_eq, BitVec.getLsbD_ofNat, Bool.and_eq_true, decide_eq_true_iff,
    testBit_sum_two_pow t.pendingNumbers_sorted, t.mem_pendingNumbers]

theorem EventKind.number_range (k : EventKind) : 1 ≤ k.number ∧ k.number ≤ 9 := by cases k <;> decide

theorem EventTable.getLsbD_pendingSet_number (t : EventTable) (k : EventKind) :
    t.pendingSet.getLsbD k.number = (t.get k).pending := by
  obtain ⟨-, most⟩ := k.number_range
  rw [Bool.eq_iff_iff, t.getLsbD_pendingSet]
  refine ⟨fun ⟨_, j, pending, same⟩ => ?_, fun pending => ⟨by omega, k, pending, rfl⟩⟩
  rwa [← EventKind.number_injective same]

theorem EventTable.getLsbD_pendingSet_other (t : EventTable) {n : Nat} (h : n = 0 ∨ 10 ≤ n) :
    t.pendingSet.getLsbD n = false := by
  rw [Bool.eq_false_iff, ne_eq, t.getLsbD_pendingSet]
  rintro ⟨_, k, _, same⟩
  obtain ⟨least, most⟩ := k.number_range
  omega

theorem runStatus_badLength {p : List Byte} (h : p ≠ []) (s : State) : runStatus p s = refuse .badLength s :=
  if_pos (mt List.length_eq_zero_iff.1 h)

theorem ResultQueue.oldestSeq_toNat (q : ResultQueue) :
    q.oldestSeq.toNat = match q.list with | [] => q.nextSeq.toNat | e :: _ => e.record.seq.toNat := by
  unfold ResultQueue.oldestSeq; cases q.list <;> rfl

/-- Settles O17: the fields are those of statusBytes, the position is gone through by scan state and resume point, and the
mask by its bits. -/
theorem statusReportsTheState : Obligations.StatusReportsTheState := by
  refine ⟨fun s token rest h => ?_, fun s token p rest hp h => row_refuses h rfl (runStatus_badLength hp), fun s => ?_,
    rfl, rfl, rfl⟩
  · refine (row_does (t := s) (fields := s.statusBytes) h rfl rfl).trans ?_
    rw [State.statusBytes, ResultQueue.oldestSeq_toNat]
    rfl
  · refine ⟨?_, ?_, fun r scan staged => ?_, fun scan resume => ?_, fun scan resume => ?_, fun scan resume => ?_,
      fun scan resume => ?_, ?_, fun scan => ?_, s.events.getLsbD_pendingSet_number,
      fun n => s.events.getLsbD_pendingSet_other⟩
    · rintro (scan | scan) <;> rw [State.position, scan]
    · rintro (scan | scan) <;> rw [State.position, scan]
    · rw [State.position, scan, staged]
    · rw [State.position, scan, resume]
    · rw [State.position, scan, resume]
    · rw [State.position, scan, resume]
    · rw [State.position, scan, resume]
    · rintro scan (resume | resume) <;> rw [State.position, scan, resume]
    · rw [State.position, scan]

/-! ## START (R81) -/

theorem runStart_badLength {p : List Byte} (h : p ≠ []) (s : State) : runStart p s = refuse .badLength s :=
  if_pos (mt List.length_eq_zero_iff.1 h)

/-- A START with no payload is refused or done by the scan state and the list (R81). -/
theorem runStart_nil (s : State) : runStart [] s = if s.seq.scan ≠ .idle then refuse .busy s
    else if s.list = [] then refuse .listEmpty s else replyDone [] s.beginScan :=
  if_neg (not_not_intro rfl)

/-- Settles O28: the length, the scan state and the list are looked at in this order, and then the scan begins. -/
theorem startArmsTheScan : Obligations.StartArmsTheScan := by
  intro s token p rest h
  refine ⟨fun hp => row_refuses h rfl (runStart_badLength hp), ?_, ?_, ?_⟩ <;> rintro rfl
  · exact fun busy => row_refuses_here h rfl ((runStart_nil _).trans (if_pos busy))
  · exact fun idle empty =>
      row_refuses_here h rfl ((runStart_nil _).trans ((if_neg (not_not_intro idle)).trans (if_pos empty)))
  · exact fun idle steps =>
      row_does (t := s.beginScan) h rfl ((runStart_nil _).trans ((if_neg (not_not_intro idle)).trans (if_neg steps)))

/-! ## The trigger latch (R85) -/

theorem State.triggerLatch_of_idle {s : State} (idle : s.seq.scan = .idle) : s.triggerLatch = s := by
  rw [State.triggerLatch, idle]

/-- Outside IDLE a start sets the latch, or is lost with PACE_OVERRUN where the latch is set (R85). -/
theorem State.triggerLatch_of_active {s : State} (active : s.seq.scan ≠ .idle) : s.triggerLatch
    = if s.seq.latch then s.raise .paceOverrun (BitVec.ofNat 16 s.seq.pass)
      else s.withSeq { s.seq with latch := true } := by
  unfold State.triggerLatch
  cases scan : s.seq.scan with
  | idle => exact absurd scan active
  | _ => rfl

theorem runTrigger_badLength {p : List Byte} (h : p ≠ []) (s : State) : runTrigger p s = refuse .badLength s :=
  if_pos (mt List.length_eq_zero_iff.1 h)

/-- A TRIGGER with no payload answers DONE after its effect on the latch (R85). -/
theorem exec_trigger_done {s t : State} {token : Byte} {rest : List Frame}
    (h : s.Executes { kind := 0x25, token := token, payload := [] } rest)
    (effect : (s.leaveInbound rest).triggerLatch = t.leaveInbound rest) :
    exec .trigger s = .next (t.answered { kind := 0x25, token := token, payload := [] } rest [0x00]) :=
  row_does h rfl (congrArg (replyDone []) effect)

/-- Settles O32: both ways to the latch, by the scan state and the latch. -/
theorem triggersReachTheLatch : Obligations.TriggersReachTheLatch := by
  refine ⟨fun s live => ?_, fun s token p rest h =>
    ⟨fun hp => row_refuses h rfl (runTrigger_badLength hp), ?_, ?_, ?_⟩⟩
  · have effect : exec .trigEdge s = .next s.triggerLatch := whileLive_of_live live _
    rw [effect]
    refine ⟨fun idle => ?_, fun active latch => ?_, fun active latch => ?_⟩
    · rw [State.triggerLatch_of_idle idle]
    · rw [State.triggerLatch_of_active active, if_neg (ne_true_of_eq_false latch)]
    · rw [State.triggerLatch_of_active active, if_pos latch]
  · rintro rfl idle
    exact exec_trigger_done h (State.triggerLatch_of_idle idle)
  · rintro rfl active latch
    exact exec_trigger_done h ((State.triggerLatch_of_active (s := s.leaveInbound rest) active).trans
      (if_neg (ne_true_of_eq_false latch)))
  · rintro rfl active latch
    exact exec_trigger_done h ((State.triggerLatch_of_active (s := s.leaveInbound rest) active).trans (if_pos latch))

end Sys2Proof.Machine
end

section
namespace Sys2Proof.Machine

/-! PROOFS. A pass of one disabled step that ends its scan (R87, R91, R92). -/

/-- A READY rail is released into its hold time (R54). -/
theorem Rail.release_of_ready {r : Rail} (ready : r.state = .ready) : r.release = { r with holdTimer := some 0 } := by
  rw [Rail.release, ready]

/-- Below their bound the passes completed go up by one (R92). -/
theorem nextPassesDone_of_lt {n : Nat} (h : n < 65535) : nextPassesDone n = n + 1 := min_eq_left h

/-- FREE pacing does not wait for the first pass (R82). -/
theorem State.paceHolds_of_first {s : State} (free : s.settings.pace = .free) (first : s.seq.pass = 0) :
    s.paceHolds = true := by
  rw [State.paceHolds_eq, free]
  exact decide_eq_true (.inl first)

/-- The state after the SKIPPED record of the current step has joined a list with room and the step has completed, whatever
lock and accumulator it had (R87, R91). -/
def State.passOver (st : Step) (u : State) : State :=
  { u.afterSkip st with
    ranging := { u.ranging with lock := none }
    seq := { (u.afterSkip st).seq with acc := .empty } }

/-- Starting a disabled step on a list with room passes it over, and the scan goes on behind it (R87, R91). -/
theorem State.takeContinuation_redoStep_passOver {u : State} {st : Step} (current : u.currentStep = some st)
    (disabled : u.table[st.channel].enabled = false) (room : u.queue.list.length < 128) :
    u.takeContinuation .redoStep
      = (u.passOver st).takeContinuation (if u.seq.step + 1 < u.list.length then .nextStep else .endPass) := by
  have skipped := State.produce_of_skipped (r := (u.withSeq { u.seq with sample := 0 }).skippedRecord st) rfl
    (s := u.withSeq { u.seq with sample := 0 }) room
  rw [(State.takeContinuation_redoStep_disabled current disabled skipped).1 rfl, State.completeStep_marks]
  rfl

/-- Settles O54: the pass starts, its one step is skipped, and the pass that ends behind it is the last. -/
theorem disabledChannelGivesOneSkippedRecord : Obligations.DisabledChannelGivesOneSkippedRecord := by
  intro s st live armed ready first free last bound list disabled room
  have started : s.startPass = s.passStarted.takeContinuation .redoStep :=
    State.startPass_of_ready armed ready (State.paceHolds_of_first free first) (by omega)
  have current : s.passStarted.currentStep = some st := by
    show s.list[0]? = some st
    rw [list]; rfl
  have behind : ¬ s.passStarted.seq.step + 1 < s.passStarted.list.length := by
    show ¬ 1 < s.list.length
    simp [list]
  have onePass : s.passStarted.seq.pass = 1 := by
    show (if s.seq.pass = 65535 then 1 else s.seq.pass + 1) = 1
    rw [first]; rfl
  have passed : s.startPass = (s.passStarted.passOver st).endPass := by
    rw [started, State.takeContinuation_redoStep_passOver current disabled room, if_neg behind]; rfl
  have done : s.settings.passes = nextPassesDone (s.passStarted.passOver st).seq.passesDone :=
    last.trans (nextPassesDone_of_lt (by omega)).symm
  have limited : (s.passStarted.passOver st).settings.passes ≠ 0 := by
    show s.settings.passes ≠ 0
    omega
  have ended := State.endPass_of_last done rfl limited le_rfl
  refine ⟨_, (whileLive_of_live live _).trans (congrArg Host.Outcome.next (passed.trans ended)), ?_, rfl, onePass, rfl,
    rfl, rfl, rfl, rfl, Rail.release_of_ready ready, rfl, rfl, ?_⟩
  · rw [← onePass]; rfl
  · show (EventTable.raise _ .passDone (BitVec.ofNat 16 s.passStarted.seq.pass)).raise .scanDone _ = _
    rw [onePass]; rfl

end Sys2Proof.Machine
end

section
namespace Sys2Proof.Machine

/-! PROOFS. A removal drains the staging slot and ends a hold (R94, R116), and FETCH is one (R120). -/

/-! ## A removal drains the staging slot (R94, R116) -/

/-- The queue after its staging slot has drained: a staged record stands at the newest end of the list (R116). -/
def ResultQueue.drained (q : ResultQueue) : ResultQueue :=
  { q with list := q.list ++ q.staged.toList.map fun r => { record := r, sent := false }, staged := none }

theorem ResultQueue.drained_of_none {q : ResultQueue} (empty : q.staged = none) : q.drained = q := by
  obtain ⟨list, staged, nextSeq⟩ := q
  subst empty
  exact congrArg (ResultQueue.mk · none nextSeq) (List.append_nil list)

theorem ResultQueue.drained_of_some {q : ResultQueue} {r : Record} (staged : q.staged = some r) :
    q.drained = { q with list := q.list ++ [{ record := r, sent := false }], staged := none } := by
  rw [ResultQueue.drained, staged]; rfl

theorem State.holdOver_of_not_held {s : State} (free : s.seq.scan ≠ .held) : s.holdOver = s := by
  unfold State.holdOver
  cases scan : s.seq.scan with
  | held => exact absurd scan free
  | _ => rfl

theorem State.holdOver_of_held {s : State} {c : Continuation} (held : s.seq.scan = .held) (cont : s.seq.cont = some c) :
    s.holdOver = (s.withSeq { s.seq with scan := .running }).takeContinuation c := by
  rw [State.holdOver, held, cont]

/-- The end of a hold neither reads nor writes the link. -/
theorem State.holdOver_withLink (s : State) (l : Link) : (s.withLink l).holdOver = s.holdOver.withLink l := by
  by_cases held : s.seq.scan = .held
  · cases cont : s.seq.cont with
    | none => simp only [State.holdOver, State.withLink_seq, held, cont]; rfl
    | some c =>
      rw [State.holdOver_of_held (s := s.withLink l) held cont, State.holdOver_of_held held cont]
      exact State.takeContinuation_withLink c (s.withSeq { s.seq with scan := .running }) l
  · rw [State.holdOver_of_not_held (s := s.withLink l) held, State.holdOver_of_not_held held]

section
variable {s : State} {removed : Nat}

/-- A removal that finds a staged record moves it to the list, and the hold is over (R94, R116). -/
theorem State.drain_of_staged (made : 0 < removed) (staged : s.queue.staged ≠ none) :
    s.drain removed = (s.withQueue s.queue.drained).holdOver := by
  obtain ⟨r, hr⟩ := Option.ne_none_iff_exists'.1 staged
  rw [State.drain, ResultQueue.drained_of_some hr, hr]
  exact if_pos made

theorem State.drain_of_empty (empty : s.queue.staged = none) : s.drain removed = s.withQueue s.queue.drained := by
  rw [State.drain, ResultQueue.drained_of_none empty, empty, State.withQueue_self]

/-- A removal in a scan that does not hold drains the slot, and that is all (R116). -/
theorem State.drain_stays (free : s.queue.staged = none ∨ 0 < removed ∧ s.seq.scan ≠ .held) :
    s.drain removed = s.withQueue s.queue.drained := by
  by_cases empty : s.queue.staged = none
  · exact State.drain_of_empty empty
  · obtain ⟨made, free⟩ := free.resolve_left empty
    rw [State.drain_of_staged made empty]
    exact State.holdOver_of_not_held free

/-- A removal in a HELD scan drains the slot, and the scan takes its continuation in RUNNING (R94, R116). -/
theorem State.drain_takes {c : Continuation} (made : 0 < removed) (staged : s.queue.staged ≠ none)
    (held : s.seq.scan = .held) (cont : s.seq.cont = some c) : s.drain removed
      = ((s.withQueue s.queue.drained).withSeq { s.seq with scan := .running }).takeContinuation c := by
  rw [State.drain_of_staged made staged]
  exact State.holdOver_of_held held cont

end

theorem State.drain_leaveInbound (removed : Nat) (s : State) (rest : List Frame) :
    (s.leaveInbound rest).drain removed = (s.drain removed).leaveInbound rest := by
  have around := s.drain_around removed
  rw [State.leaveInbound, State.leaveInbound, around.link]
  unfold State.drain
  rw [State.withLink_queue]
  cases s.queue.staged with
  | none => rfl
  | some r =>
    dsimp only
    split
    · exact State.holdOver_withLink (s.withQueue { s.queue.append r with staged := none }) _
    · rfl

/-! ## FETCH (R120) -/

/-- The queue without its oldest records (R120). -/
def ResultQueue.dropOldest (n : Nat) (q : ResultQueue) : ResultQueue := { q with list := q.list.drop n }

/-- The state after the oldest records have been fetched and the slot has drained (R116, R120). -/
def State.takeOldest (n : Nat) (s : State) : State :=
  (s.withQueue (s.queue.dropOldest n)).drain (s.fetched n).length

theorem State.fetched_length (n : Nat) (s : State) : (s.fetched n).length = min n s.queue.list.length := by
  simp [State.fetched]

/-- The fetched records stand in the reply behind their number (R120, R198). -/
theorem recordsBytes_fetched (n : Nat) (s : State) : recordsBytes (s.fetched n)
    = byteOf (min n s.queue.list.length) :: (s.queue.list.take n).flatMap fun e => recordBytes e.record := by
  rw [recordsBytes, s.fetched_length, State.fetched, List.flatMap_map]

theorem runFetch_badLength {p : List Byte} (h : p.length ≠ 1) (s : State) : runFetch p s = refuse .badLength s :=
  if_pos h

/-- A FETCH of one byte is refused or done by its count and the stream state (R120). -/
theorem runFetch_one (n : Byte) (s : State) : runFetch [n] s
    = if n.toNat = 0 ∨ 3 < n.toNat then refuse .badValue s else if s.stream.state ≠ .off then refuse .wrongMode s
      else replyDone (recordsBytes (s.fetched n.toNat)) (s.takeOldest n.toNat) :=
  if_neg (not_not_intro rfl)

/-- A FETCH of 1 to 3 with the stream OFF answers the oldest records (R120). -/
theorem exec_fetch_done {s : State} {token n : Byte} {rest : List Frame}
    (h : s.Executes { kind := 0x28, token := token, payload := [n] } rest) (least : 1 ≤ n.toNat) (most : n.toNat ≤ 3)
    (off : s.stream.state = .off) :
    exec .fetch s = .next ((s.takeOldest n.toNat).answered { kind := 0x28, token := token, payload := [n] } rest
      (0x00 :: byteOf (min n.toNat s.queue.list.length)
        :: (s.queue.list.take n.toNat).flatMap fun e => recordBytes e.record)) := by
  have legal : ¬(n.toNat = 0 ∨ 3 < n.toNat) := by omega
  rw [← recordsBytes_fetched]
  refine row_does h rfl ((runFetch_one n _).trans ((if_neg legal).trans ((if_neg (not_not_intro off)).trans ?_)))
  exact congrArg (replyDone (recordsBytes (s.fetched n.toNat)))
    (State.drain_leaveInbound _ (s.withQueue (s.queue.dropOldest n.toNat)) rest)

section
variable {s : State} {n : Nat} {r : Record}

theorem State.fetched_pos (least : 1 ≤ n) (filled : s.queue.list ≠ []) : 0 < (s.fetched n).length := by
  have one := List.length_pos_of_ne_nil filled
  rw [s.fetched_length]
  omega

/-- With nothing staged a FETCH only takes the oldest records away (R120). -/
theorem State.takeOldest_of_empty (empty : s.queue.staged = none) :
    s.takeOldest n = s.withQueue { s.queue with list := s.queue.list.drop n } := by
  rw [State.takeOldest, State.drain_stays (s := s.withQueue (s.queue.dropOldest n)) (.inl empty),
    ResultQueue.drained_of_none (q := (s.withQueue (s.queue.dropOldest n)).queue) empty]
  rfl

/-- A staged record joins what a FETCH leaves of the list (R116, R120). -/
theorem State.takeOldest_of_free (least : 1 ≤ n) (filled : s.queue.list ≠ []) (staged : s.queue.staged = some r)
    (free : s.seq.scan ≠ .held) : s.takeOldest n = s.withQueue { s.queue with
      list := s.queue.list.drop n ++ [{ record := r, sent := false }], staged := none } := by
  rw [State.takeOldest,
    State.drain_stays (s := s.withQueue (s.queue.dropOldest n)) (.inr ⟨State.fetched_pos least filled, free⟩),
    ResultQueue.drained_of_some (q := (s.withQueue (s.queue.dropOldest n)).queue) staged]
  rfl

/-- A staged record joins what a FETCH leaves of the list, and a HELD scan takes its continuation (R94, R116, R120). -/
theorem State.takeOldest_of_held (least : 1 ≤ n) (filled : s.queue.list ≠ []) (staged : s.queue.staged = some r)
    (held : s.seq.scan = .held) {c : Continuation} (cont : s.seq.cont = some c) :
    s.takeOldest n = State.takeContinuation c { s with
      queue := { s.queue with list := s.queue.list.drop n ++ [{ record := r, sent := false }], staged := none }
      seq := { s.seq with scan := .running } } := by
  have waits : s.queue.staged ≠ none := by rw [staged]; exact Option.some_ne_none r
  rw [State.takeOldest,
    State.drain_takes (s := s.withQueue (s.queue.dropOldest n)) (State.fetched_pos least filled) waits held cont,
    ResultQueue.drained_of_some (q := (s.withQueue (s.queue.dropOldest n)).queue) staged]
  rfl

end

/-- Settles O35: the refusals by length, count and stream, and then the staging slot and the scan state decide. -/
theorem fetchRemovesTheOldestRecords : Obligations.FetchRemovesTheOldestRecords := by
  intro s token p rest h
  refine ⟨fun hl => row_refuses h rfl (runFetch_badLength hl), fun n => ?_, fun n => ?_, fun n => ?_, fun n r => ?_,
    fun n r => ?_, fun n r next => ?_⟩ <;> rintro rfl
  · exact fun bad => row_refuses_here h rfl ((runFetch_one n _).trans (if_pos bad))
  · intro least most on
    have legal : ¬(n.toNat = 0 ∨ 3 < n.toNat) := by omega
    exact row_refuses_here h rfl ((runFetch_one n _).trans ((if_neg legal).trans (if_pos on)))
  · intro least most off empty
    rw [exec_fetch_done h least most off, State.takeOldest_of_empty empty]
  · intro least most off staged filled free
    rw [exec_fetch_done h least most off, State.takeOldest_of_free least filled staged free]
  · intro least most off staged filled held cont unlimited
    rw [exec_fetch_done h least most off, State.takeOldest_of_held least filled staged held cont]
    congr 2
    exact State.endPass_of_more rfl rfl (.inl unlimited)
  · intro least most off staged filled held cont
    rw [exec_fetch_done h least most off, State.takeOldest_of_held least filled staged held cont]

end Sys2Proof.Machine
end

section
namespace Sys2Proof.Machine

/-! PROOFS. ACK: an acknowledgement, a duplicate, or out of range (R136 to R138). -/

/-! ## The marked records at the oldest end (R111, R137) -/

section
variable {q : ResultQueue} {marked fresh : List Queued} (list : q.list = marked ++ fresh)
  (sent : ∀ e ∈ marked, e.sent = true) (unsent : ∀ e ∈ fresh, e.sent = false)
include list sent unsent

/-- The newest marked record is the last of the marked ones (R137). -/
theorem ResultQueue.newestMarked_eq : q.newestMarked = marked.getLast?.map (·.record.seq) := by
  have marks : q.list.filter (·.sent) = marked := by
    rw [list, List.filter_append, List.filter_eq_self.2 sent, List.filter_eq_nil_iff.2 (by simpa using unsent),
      List.append_nil]
  rw [ResultQueue.newestMarked, marks]

/-- A number beyond the newest marked record, if there is one, acknowledges nothing (R137). -/
theorem ResultQueue.acknowledges_eq_false {a : Word16}
    (beyond : ∀ newest, marked.getLast? = some newest →
      seqDistance q.oldestSeq newest.record.seq < seqDistance q.oldestSeq a) : q.acknowledges a = false := by
  rw [ResultQueue.acknowledges, ResultQueue.newestMarked_eq list sent unsent]
  cases last : marked.getLast? with
  | none => rfl
  | some newest => exact decide_eq_false (not_le.2 (beyond newest last))

/-- A number up to the newest marked record is an acknowledgement (R137). -/
theorem ResultQueue.acknowledges_eq_true {a : Word16} {newest : Queued} (last : marked.getLast? = some newest)
    (inside : seqDistance q.oldestSeq a ≤ seqDistance q.oldestSeq newest.record.seq) : q.acknowledges a = true := by
  rw [ResultQueue.acknowledges, ResultQueue.newestMarked_eq list sent unsent, last]
  exact decide_eq_true inside

/-- An acknowledgement keeps the marked records behind its number and every fresh one (R137). -/
theorem ResultQueue.ackRemoves_keeps (a : Word16) : q.list.filter (fun e => !q.ackRemoves a e)
    = marked.filter (fun e => decide (seqDistance q.oldestSeq a < seqDistance q.oldestSeq e.record.seq)) ++ fresh := by
  rw [list, List.filter_append]
  congr 1
  · refine List.filter_congr fun e he => ?_
    simp [ResultQueue.ackRemoves, sent e he, ← decide_not]
  · refine List.filter_eq_self.2 fun e he => ?_
    simp [ResultQueue.ackRemoves, unsent e he]

end

/-- The in-flight records that an acknowledgement removes are those up to its number (R137). -/
theorem ResultQueue.ackRemoves_inFlight {q : ResultQueue} {marked fresh : List Queued} (list : q.list = marked ++ fresh)
    (sent : ∀ e ∈ marked, e.sent = true) (a : Word16) {k : Nat} (few : k ≤ marked.length) :
    (q.list.take k).filter (q.ackRemoves a)
      = (marked.take k).filter fun e => decide (seqDistance q.oldestSeq e.record.seq ≤ seqDistance q.oldestSeq a) := by
  rw [list, List.take_append_of_le_length few]
  refine List.filter_congr fun e he => ?_
  simp [ResultQueue.ackRemoves, sent e (List.mem_of_mem_take he)]

/-- The oldest record is at no distance from the oldest number, so every acknowledgement removes it (R137). -/
theorem ResultQueue.ackRemoves_oldest {q : ResultQueue} {oldest : Queued} {later : List Queued}
    (list : q.list = oldest :: later) (sent : oldest.sent = true) (a : Word16) : q.ackRemoves a oldest = true := by
  have first : q.oldestSeq = oldest.record.seq := by rw [ResultQueue.oldestSeq, list]
  simp [ResultQueue.ackRemoves, sent, first, seqDistance]

/-! ## The effect of an acknowledgement (R137) -/

/-- The state after an acknowledgement has removed its records, before the slot drains (R137). -/
def State.removeAcked (a : Word16) (s : State) : State :=
  let k := s.stream.inFlight - ((s.queue.list.take s.stream.inFlight).filter (s.queue.ackRemoves a)).length
  (s.withQueue { s.queue with list := s.queue.list.filter fun e => !s.queue.ackRemoves a e }).withStream
    { s.stream with inFlight := k, timeouts := 0, timer := if 0 < k then some 0 else none }

/-- What an acknowledgement leaves: the records it keeps, and the timer restarted while any record is in flight (R137). -/
theorem State.removeAcked_eq {a : Word16} {s : State} {k : Nat} {kept : List Queued}
    (hk : k = s.stream.inFlight - ((s.queue.list.take s.stream.inFlight).filter (s.queue.ackRemoves a)).length)
    (keeps : (s.queue.list.filter fun e => !s.queue.ackRemoves a e) = kept) : s.removeAcked a = { s with
      queue := { s.queue with list := kept }
      stream := { s.stream with inFlight := k, timeouts := 0, timer := if k = 0 then none else some 0 } } := by
  rw [State.removeAcked, ← hk, keeps]
  simp only [Nat.pos_iff_ne_zero, ne_eq, ite_not]
  rfl

/-- How many records an acknowledgement removes (R137). -/
def ResultQueue.ackCount (q : ResultQueue) (a : Word16) : Nat :=
  q.list.length - (q.list.filter fun e => !q.ackRemoves a e).length

theorem State.acknowledge_eq (a : Word16) (s : State) :
    s.acknowledge a = (s.removeAcked a).drain (s.queue.ackCount a) := rfl

theorem ResultQueue.ackCount_pos {q : ResultQueue} {oldest : Queued} {later : List Queued}
    (list : q.list = oldest :: later) (sent : oldest.sent = true) (a : Word16) : 0 < q.ackCount a := by
  have shorter : (q.list.filter fun e => !q.ackRemoves a e).length < q.list.length :=
    List.length_filter_lt_length_iff_exists.2
      ⟨oldest, by simp [list], by simp [ResultQueue.ackRemoves_oldest list sent a]⟩
  rw [ResultQueue.ackCount]
  omega

theorem runAck_badLength {p : List Byte} (h : p.length ≠ 2) (s : State) : runAck p s = refuse .badLength s := if_pos h

/-- An ACK of two bytes is answered by the stream state and the place of its number (R136 to R138). -/
theorem runAck_pair (high low : Byte) {a : Word16} (ha : a = BitVec.ofNat 16 (high.toNat * 256 + low.toNat))
    (s : State) : runAck [high, low] s = if s.stream.state ≠ .on then refuse .wrongMode s
      else if s.queue.acknowledges a then replyDone [] (s.acknowledge a)
      else if s.queue.duplicateAck a then replyDone [] s else refuse .seqRange s := by
  subst ha
  exact if_neg (not_not_intro rfl)

section
variable {s : State} {token high low : Byte} {rest : List Frame} {a : Word16}

/-- An acknowledgement answers DONE after its effect (R137). -/
theorem exec_ack_done (h : s.Executes { kind := 0x2A, token := token, payload := [high, low] } rest)
    (ha : a = BitVec.ofNat 16 (high.toNat * 256 + low.toNat)) (on : s.stream.state = .on)
    (acknowledges : s.queue.acknowledges a = true) :
    exec .ack s = .next ((s.acknowledge a).answered { kind := 0x2A, token := token, payload := [high, low] } rest
      [0x00]) := by
  refine row_does h rfl ((runAck_pair high low ha _).trans ((if_neg (not_not_intro on)).trans
    ((if_pos acknowledges).trans ?_)))
  exact congrArg (replyDone []) (State.drain_leaveInbound _ (s.removeAcked a) rest)

end

/-- Settles O37: inside the range the marked records up to the number leave and the slot drains; anywhere else nothing
changes, and the distance to the oldest number tells a duplicate. -/
theorem ackAnswersByItsPlaceInTheList : Obligations.AckAnswersByItsPlaceInTheList := by
  refine ⟨?_, fun s token p rest h => ⟨fun hl => row_refuses h rfl (runAck_badLength hl), fun hl off => ?_, ?_⟩⟩
  · intro s token high low rest oldest newest between marked fresh a k u h ha on list ends sent unsent few inside hk hu
    obtain ⟨later, first, last⟩ : ∃ later, marked = oldest :: later ∧ marked.getLast? = some newest := by
      rcases ends with ⟨rfl, rfl⟩ | rfl
      · exact ⟨[], rfl, rfl⟩
      · exact ⟨between ++ [newest], rfl, List.getLast?_concat ..⟩
    have oldestFirst : s.queue.list = oldest :: (later ++ fresh) := by rw [list, first]; rfl
    have oldestSent : oldest.sent = true := sent oldest (by simp [first])
    have number : s.queue.oldestSeq = oldest.record.seq := by rw [ResultQueue.oldestSeq, oldestFirst]
    rw [← number] at inside hk hu
    have acknowledges := ResultQueue.acknowledges_eq_true list sent unsent last inside
    have made := ResultQueue.ackCount_pos oldestFirst oldestSent a
    rw [← ResultQueue.ackRemoves_inFlight list sent a few] at hk
    have removed : (s.removeAcked a).withQueue (s.removeAcked a).queue.drained = u := by
      rw [State.removeAcked_eq hk (ResultQueue.ackRemoves_keeps list sent unsent a), hu, ResultQueue.drained]
      dsimp only
      cases s.queue.staged <;> rfl
    rw [exec_ack_done h ha on acknowledges, State.acknowledge_eq]
    refine ⟨fun free => ?_, fun next staged held cont => ?_⟩
    · rw [State.drain_stays (s := s.removeAcked a) (free.imp_right fun held => ⟨made, held⟩), removed]
    · rw [State.drain_takes (s := s.removeAcked a) made staged held cont, removed]
      rfl
  · obtain ⟨high, low, rfl⟩ := List.length_eq_two.1 hl
    exact row_refuses_here h rfl ((runAck_pair high low rfl _).trans (if_pos off))
  · rintro high low a marked fresh rfl ha on list sent unsent beyond
    have acknowledges := ResultQueue.acknowledges_eq_false list sent unsent beyond
    have run := (runAck_pair high low ha (s.leaveInbound rest)).trans ((if_neg (not_not_intro on)).trans
      (if_neg (ne_true_of_eq_false acknowledges)))
    refine ⟨fun least most => ?_, fun far => ?_⟩
    · have duplicate : s.queue.duplicateAck a = true := by simp [ResultQueue.duplicateAck, least, most]
      exact row_does (t := s) h rfl (run.trans (if_pos duplicate))
    · have foreign : ¬ s.queue.duplicateAck a = true := by simp [ResultQueue.duplicateAck]; omega
      exact row_refuses_here h rfl (run.trans (if_neg foreign))

end Sys2Proof.Machine
end

section
namespace Sys2Proof.Machine

/-! PROOFS. The admission of a record by room and by policy (R112 to R115). -/

section
variable {s : State} {r : Record}

theorem State.admitRecord_of_room (room : s.queue.list.length < Config.queueDepth) :
    s.admitRecord r = (.goOn, s.withQueue (s.queue.append r)) := if_pos room

theorem State.admitRecord_of_stall (full : Config.queueDepth ≤ s.queue.list.length)
    (policy : s.settings.policy = .stall) :
    s.admitRecord r = (.hold, s.withQueue { s.queue with staged := some r }) := by
  rw [State.admitRecord, if_neg (Nat.not_lt.2 full), policy]

theorem State.admitRecord_of_dropNewest (full : Config.queueDepth ≤ s.queue.list.length)
    (policy : s.settings.policy = .dropNewest) :
    s.admitRecord r = (.goOn, s.raise .queueLoss r.seq) := by
  rw [State.admitRecord, if_neg (Nat.not_lt.2 full), policy]

theorem State.admitRecord_of_dropOldest (full : Config.queueDepth ≤ s.queue.list.length)
    (policy : s.settings.policy = .dropOldest) {lost : Record} (oldest : s.queue.oldestFresh = some lost) :
    s.admitRecord r = (.goOn, (s.withQueue (s.queue.dropOldestFresh.append r)).raise .queueLoss lost.seq) := by
  rw [State.admitRecord, if_neg (Nat.not_lt.2 full), policy]
  dsimp only
  rw [oldest]

end

/-- The oldest fresh record is the first behind a marked part (R115). -/
theorem ResultQueue.oldestFresh_eq {q : ResultQueue} {marked fresh : List Queued} {lost : Queued}
    (list : q.list = marked ++ lost :: fresh) (sent : ∀ e ∈ marked, e.sent = true) (unsent : lost.sent = false) :
    q.oldestFresh = some lost.record := by
  have noFresh : marked.find? (fun e => !e.sent) = none := List.find?_eq_none.2 fun e he => by simp [sent e he]
  rw [ResultQueue.oldestFresh, list, List.find?_append, noFresh]
  simp [unsent]

/-- Without it the marked part and the records behind it are left (R115). -/
theorem ResultQueue.dropOldestFresh_eq {q : ResultQueue} {marked fresh : List Queued} {lost : Queued}
    (list : q.list = marked ++ lost :: fresh) (sent : ∀ e ∈ marked, e.sent = true) (unsent : lost.sent = false) :
    q.dropOldestFresh = { q with list := marked ++ fresh } := by
  rw [ResultQueue.dropOldestFresh, list, List.eraseP_append_right _ fun e he => by simp [sent e he],
    List.eraseP_cons_of_pos (by simp [unsent])]

/-- Settles O33: a case for the room and one for each policy of a full list. -/
theorem admissionFollowsThePolicy : Obligations.AdmissionFollowsThePolicy := by
  intro s r
  refine ⟨State.admitRecord_of_room, State.admitRecord_of_stall, State.admitRecord_of_dropNewest, ?_⟩
  intro marked lost fresh full policy list sent unsent
  rw [State.admitRecord_of_dropOldest full policy (ResultQueue.oldestFresh_eq list sent unsent),
    ResultQueue.dropOldestFresh_eq list sent unsent]
  rfl

end Sys2Proof.Machine
end

section
namespace Sys2Proof.Machine

/-! PROOFS. The sequence numbers of the queue in the order of production (R108, R110): the law as one rising list of
numbers, and what a removal and a production do to it. -/

/-! ## The numbers of the queue -/

/-- Counted forward from a base, the numbers strictly increase. -/
def NumbersRise (base : Word16) (l : List Word16) : Prop := (l.map (seqDistance base)).Pairwise (· < ·)

/-- The sequence numbers in the queue, oldest first: those of the list, and the staged record's (R110). -/
def ResultQueue.numbers (q : ResultQueue) : List Word16 := (q.list.map (·.record) ++ q.staged.toList).map (·.seq)

theorem NumbersRise.sublist {base : Word16} {k l : List Word16} (h : NumbersRise base l) (sub : k.Sublist l) :
    NumbersRise base k := List.Pairwise.sublist (sub.map _) h

theorem numbersRise_concat {base n : Word16} {l : List Word16} :
    NumbersRise base (l ++ [n]) ↔ NumbersRise base l ∧ ∀ m ∈ l, seqDistance base m < seqDistance base n := by
  simp [NumbersRise, List.pairwise_append]

/-- Neighbours that increase are enough, for the order is transitive. -/
theorem increasingFrom_iff (base : Word16) (l : List Queued) :
    increasingFrom base l = true ↔ NumbersRise base ((l.map (·.record)).map (·.seq)) := by
  rw [NumbersRise, ← List.isChain_iff_pairwise]
  induction l using increasingFrom.induct with
  | case1 | case2 => simp [increasingFrom]
  | case3 a b rest ih => simpa [increasingFrom] using fun _ => ih

/-- The second law of R110 says that the numbers in the queue rise, and the next number follows them. -/
theorem seqLaw_iff (base : Word16) (q : ResultQueue) :
    SeqLaw base q ↔ NumbersRise base (q.numbers ++ [q.nextSeq]) := by
  rw [SeqLaw, increasingFrom_iff, numbersRise_concat, ResultQueue.numbers]
  cases q.staged with
  | none => simp
  | some r =>
    simp only [Option.toList_some, List.map_append, List.map_cons, List.map_nil, numbersRise_concat,
      List.forall_mem_append, List.forall_mem_map, List.forall_mem_singleton, Option.mem_some_iff, forall_eq']
    exact ⟨fun ⟨rise, listed, last, slot⟩ => ⟨⟨rise, slot⟩, listed, last⟩,
      fun ⟨⟨rise, slot⟩, listed, last⟩ => ⟨rise, listed, last, slot⟩⟩

theorem seqDistance_succ {base n : Word16} (h : seqDistance base n < 65535) :
    seqDistance base (n + 1) = seqDistance base n + 1 := by
  unfold seqDistance at *; bv_omega

section
variable {base : Word16} {q t : ResultQueue}

/-- A queue that only loses records keeps the order (R110). -/
theorem seqLaw_of_removal (h : SeqLaw base q) (sub : t.numbers.Sublist q.numbers) (next : t.nextSeq = q.nextSeq) :
    SeqLaw base t := by
  rw [seqLaw_iff] at h ⊢
  rw [next]
  exact h.sublist (sub.append_right _)

/-- A queue that may lose records and takes the next number last keeps the order, as long as the numbers have not come
round (R108, R110). -/
theorem seqLaw_of_production (h : SeqLaw base q) (sub : t.numbers.Sublist (q.numbers ++ [q.nextSeq]))
    (next : t.nextSeq = q.nextSeq + 1) (room : seqDistance base q.nextSeq < 65535) : SeqLaw base t := by
  have follows := seqDistance_succ room
  rw [seqLaw_iff] at h ⊢
  rw [next]
  refine (numbersRise_concat.2 ⟨h, fun m hm => ?_⟩).sublist (sub.append_right _)
  rcases List.mem_append.1 hm with listed | last
  · have before := (numbersRise_concat.1 h).2 m listed
    omega
  · rw [List.mem_singleton.1 last]; omega

end

theorem seqLaw_reset (base : Word16) : SeqLaw base .reset := by simp [SeqLaw, ResultQueue.reset, increasingFrom]

/-! ## The production of a record -/

theorem ResultQueue.numbers_append {q : ResultQueue} (staged : q.staged = none) (r : Record) :
    (q.append r).numbers = q.numbers ++ [r.seq] := by
  simp [ResultQueue.numbers, ResultQueue.append, staged]

theorem ResultQueue.numbers_staged {q : ResultQueue} (staged : q.staged = none) (r : Record) :
    ({ q with staged := some r } : ResultQueue).numbers = q.numbers ++ [r.seq] := by
  simp [ResultQueue.numbers, staged]

/-- A list with records left out leaves out their numbers. -/
theorem ResultQueue.numbers_sublist {q : ResultQueue} {l : List Queued} (sub : l.Sublist q.list) :
    ({ q with list := l } : ResultQueue).numbers.Sublist q.numbers :=
  ((sub.map _).append_right _).map _

/-- The sent marks are no matter of the numbers (R125). -/
theorem ResultQueue.numbers_remarked {q : ResultQueue} {l : List Queued}
    (same : l.map (·.record) = q.list.map (·.record)) : ({ q with list := l } : ResultQueue).numbers = q.numbers := by
  simp only [ResultQueue.numbers, same]

/-- A staged record that joins the list stays the last (R116). -/
theorem ResultQueue.numbers_joined {q : ResultQueue} {r : Record} (staged : q.staged = some r) :
    ({ q.append r with staged := none } : ResultQueue).numbers = q.numbers := by
  simp [ResultQueue.numbers, ResultQueue.append, staged]

/-- A staged record that is discarded was the last (R117). -/
theorem ResultQueue.numbers_discarded (q : ResultQueue) :
    ({ q with staged := none } : ResultQueue).numbers.Sublist q.numbers :=
  (List.Sublist.append_left (List.nil_sublist _) _).map _

/-- An evaluation leaves the record's number (R147). -/
theorem State.evaluate_number (r : Record) (s : State) : (s.evaluate r).1.seq = r.seq := by
  rcases (s.evaluate_cases r).1 with e | e <;> rw [e]

/-- An admission to a queue with a free slot puts the record last, or not in, and a scan that goes on finds the slot
free (R112 to R115). -/
theorem State.admitRecord_numbers {s : State} (staged : s.queue.staged = none) (r : Record) :
    (s.admitRecord r).2.queue.numbers.Sublist (s.queue.numbers ++ [r.seq])
      ∧ (s.admitRecord r).2.queue.nextSeq = s.queue.nextSeq
      ∧ ((s.admitRecord r).1 = .goOn → (s.admitRecord r).2.queue.staged = none) := by
  rcases s.admitRecord_cases r with ⟨-, e⟩ | ⟨-, -, e⟩ | ⟨-, e⟩ | ⟨lost, -, -, -, e⟩ <;> rw [e]
  · exact ⟨by rw [← ResultQueue.numbers_append staged]; rfl, rfl, fun _ => staged⟩
  · exact ⟨by rw [← ResultQueue.numbers_staged staged]; rfl, rfl, nofun⟩
  · exact ⟨List.sublist_append_left _ _, rfl, fun _ => staged⟩
  · refine ⟨?_, rfl, fun _ => staged⟩
    show (s.queue.dropOldestFresh.append r).numbers.Sublist _
    rw [ResultQueue.numbers_append (q := s.queue.dropOldestFresh) staged]
    exact (ResultQueue.numbers_sublist List.eraseP_sublist).append_right _

/-- A production with a free slot takes the next number for its record, which comes last, or not in (R108, R109). -/
theorem State.produce_numbers {s : State} (staged : s.queue.staged = none) (draft : Record) :
    (s.produce draft).2.queue.numbers.Sublist (s.queue.numbers ++ [s.queue.nextSeq])
      ∧ (s.produce draft).2.queue.nextSeq = s.queue.nextSeq + 1
      ∧ ((s.produce draft).1 = .goOn → (s.produce draft).2.queue.staged = none) := by
  have queue : ((s.assign draft).2.evaluate (s.assign draft).1).2.queue
      = { s.queue with nextSeq := s.queue.nextSeq + 1 } := State.evaluate_queue _ _
  obtain ⟨numbers, next, free⟩ := State.admitRecord_numbers (by rw [queue]; exact staged)
    ((s.assign draft).2.evaluate (s.assign draft).1).1
  rw [State.evaluate_number, queue] at numbers
  rw [queue] at next
  exact ⟨numbers, next, free⟩

end Sys2Proof.Machine
end

section
namespace Sys2Proof.Machine

/-! PROOFS. The sample loop keeps the records in the order of their numbers (R108, R110): it produces with a free slot
alone, and at most one record for each step of the list. -/

/-- The order holds, and this many more numbers can be given out before they come round to the base (log entry 15). -/
structure Ordered (base : Word16) (n : Nat) (s : State) : Prop where
  law : SeqLaw base s.queue
  room : seqDistance base s.queue.nextSeq + n < 65536

section
variable {base : Word16} {n m : Nat} {s t : State}

theorem Ordered.of_queue (h : Ordered base n s) (same : t.queue = s.queue) : Ordered base n t := by
  obtain ⟨law, room⟩ := h
  rw [← same] at law room
  exact ⟨law, room⟩

theorem Ordered.mono (h : Ordered base n s) (le : m ≤ n) : Ordered base m s :=
  ⟨h.law, (Nat.add_le_add_left le _).trans_lt h.room⟩

/-- A removal, or a record that leaves its slot for the list, keeps the order and takes no number. -/
theorem Ordered.of_removal (h : Ordered base n s) (sub : t.queue.numbers.Sublist s.queue.numbers)
    (next : t.queue.nextSeq = s.queue.nextSeq) : Ordered base n t :=
  ⟨seqLaw_of_removal h.law sub next, by rw [next]; exact h.room⟩

/-- A production with a free slot takes one number (R108). -/
theorem Ordered.produce (h : Ordered base (n + 1) s) (staged : s.queue.staged = none) (draft : Record) :
    Ordered base n (s.produce draft).2 := by
  obtain ⟨numbers, next, -⟩ := State.produce_numbers staged draft
  have room := h.room
  have follows := seqDistance_succ (base := base) (n := s.queue.nextSeq) (by omega)
  refine ⟨seqLaw_of_production h.law numbers next (by omega), ?_⟩
  rw [next, follows]
  omega

/-- Starting steps produces at most one record for each of them (R87). -/
theorem Ordered.startSteps (steps : List Step) : ∀ {s : State}, s.queue.staged = none →
    Ordered base steps.length s → SeqLaw base (startSteps steps s).queue := by
  induction steps with
  | nil => exact fun _ h => by rw [Machine.startSteps, State.endPass_queue]; exact h.law
  | cons st rest ih =>
    intro s staged h
    rw [Machine.startSteps]
    split
    · rw [State.beginSample_queue]; exact h.law
    · have made := Ordered.produce (n := rest.length) (s := s.withSeq { s.seq with sample := 0 }) (h.of_queue rfl)
        staged ((s.withSeq { s.seq with sample := 0 }).skippedRecord st)
      have done := made.of_queue (State.completeStep_queue st _)
      obtain ⟨-, -, free⟩ := State.produce_numbers (s := s.withSeq { s.seq with sample := 0 }) staged
        ((s.withSeq { s.seq with sample := 0 }).skippedRecord st)
      dsimp only
      split
      next => exact done.law
      next goesOn =>
        refine ih ?_ (done.of_queue rfl)
        rw [State.withSeq_queue, State.completeStep_queue]
        exact free goesOn

/-- How many steps a continuation may start. -/
def State.stepsAhead (c : Continuation) (s : State) : Nat :=
  match c with
  | .redoStep => s.list.length - s.seq.step
  | .nextStep => s.list.length - (s.seq.step + 1)
  | .measure | .nextSample | .endPass => 0

theorem State.stepsAhead_le (c : Continuation) (s : State) : s.stepsAhead c ≤ s.list.length := by
  cases c <;> simp [State.stepsAhead]

/-- Only the continuation that starts the step again starts all the steps from the position on. -/
theorem State.stepsAhead_le_pred {c : Continuation} (other : c ≠ .redoStep) (s : State) :
    s.stepsAhead c ≤ s.list.length - 1 := by
  cases c with
  | redoStep => exact absurd rfl other
  | nextStep => simp only [State.stepsAhead]; omega
  | measure | nextSample | endPass => exact Nat.zero_le _

theorem Ordered.takeContinuation {c : Continuation} (staged : s.queue.staged = none)
    (h : Ordered base (s.stepsAhead c) s) : SeqLaw base (s.takeContinuation c).queue := by
  unfold State.takeContinuation
  cases c with
  | measure =>
    dsimp only
    split
    · exact h.law
    · rw [State.connect_queue]; exact h.law
  | nextSample =>
    dsimp only
    split
    · exact h.law
    · rw [State.beginSample_queue]; exact h.law
  | redoStep => exact Ordered.startSteps _ staged (by rw [List.length_drop]; exact h)
  | nextStep =>
    refine Ordered.startSteps (s := s.withSeq { s.seq with step := s.seq.step + 1 }) _ staged ?_
    rw [List.length_drop]
    exact h.of_queue rfl
  | endPass => dsimp only; rw [State.endPass_queue]; exact h.law

theorem Ordered.goOnWith {c : Continuation} (staged : s.queue.staged = none) (h : Ordered base (s.stepsAhead c) s) :
    SeqLaw base (s.goOnWith c).queue := by
  unfold State.goOnWith
  split
  · cases c with
    | endPass => dsimp only; rw [State.endPass_queue]; exact h.law
    | measure | nextSample | redoStep | nextStep => exact h.law
  · exact h.takeContinuation staged

@[simp] theorem State.holdWith_queue (c : Continuation) (s : State) : (s.holdWith c).queue = s.queue := by
  unfold State.holdWith; split <;> rfl

theorem State.afterStep_ne_redoStep (s : State) : s.afterStep ≠ .redoStep := by
  unfold State.afterStep; split <;> nofun

/-- The record of a step, and those of the disabled steps after it (R87, R90, R91). -/
theorem Ordered.deliver {st : Step} {last : Bool} {draft : Record} (staged : s.queue.staged = none)
    (h : Ordered base (s.list.length - 1 + 1) s) : SeqLaw base (s.deliver st last draft).queue := by
  obtain ⟨-, -, free⟩ := State.produce_numbers staged draft
  have queue : (if last then (s.produce draft).2.completeStep st else (s.produce draft).2).queue
      = (s.produce draft).2.queue := by
    split
    · exact State.completeStep_queue st _
    · rfl
  have list : (if last then (s.produce draft).2.completeStep st else (s.produce draft).2).list = s.list := by
    split
    · exact ((State.completeStep_around st _).list.trans (State.produce_around draft s).list :)
    · exact (State.produce_around draft s).list
  have other : (if last then s.afterStep else .nextSample) ≠ Continuation.redoStep := by
    split
    · exact s.afterStep_ne_redoStep
    · nofun
  have done := (h.produce staged draft).of_queue queue
  unfold State.deliver
  dsimp only
  split
  next goesOn =>
    refine Ordered.goOnWith (by rw [queue]; exact free goesOn) (done.mono ?_)
    rw [← list]
    exact State.stepsAhead_le_pred other _
  next => rw [State.holdWith_queue]; exact done.law

theorem Ordered.takeSample {st : Step} {a : Sample} (staged : s.queue.staged = none)
    (h : Ordered base (s.list.length - 1 + 1) s) : SeqLaw base (s.takeSample st a).queue := by
  unfold State.takeSample
  dsimp only
  split
  · split
    · exact Ordered.goOnWith (c := .nextSample) staged ⟨h.law, (h.mono (Nat.zero_le _)).room⟩
    · exact Ordered.deliver (s := s.withSeq _) staged (h.of_queue rfl)
  · exact Ordered.deliver staged h

theorem Ordered.acceptOutcome {st : Step} {hunt : Bool} {o : ConvOutcome} (staged : s.queue.staged = none)
    (h : Ordered base (s.list.length - 1 + 1) s) : SeqLaw base (s.acceptOutcome st hunt o).queue := by
  unfold State.acceptOutcome
  dsimp only
  split
  · exact Ordered.takeSample (s := (s.setChannel _ _).withRanging _) staged (h.of_queue rfl)
  · exact Ordered.takeSample (s := s.withRanging _) staged (h.of_queue rfl)

theorem Ordered.judge {st : Step} {o : ConvOutcome} (staged : s.queue.staged = none)
    (h : Ordered base (s.list.length - 1 + 1) s) : SeqLaw base (s.judge st o).queue := by
  unfold State.judge
  split
  · split
    · exact h.acceptOutcome staged
    · split
      · exact h.acceptOutcome staged
      · rw [State.changeRange, State.connect_queue]; exact h.law
  · exact h.acceptOutcome staged

end

end Sys2Proof.Machine
end

section
namespace Sys2Proof.Machine

/-! PROOFS. Every step keeps the records in the order of their numbers (R108, R110): most commands leave the result queue
alone, and the others remove records, mark them, reset the queue, or produce the records of one pass at most. -/

/-! ## The commands that leave the result queue alone -/

/-- The commands that may change the result queue: by records, by removals, by marks or by reset. -/
def touchesQueue : Instr → Bool
  | .restart | .channelSet | .channelOff | .stop | .resume | .fetch | .streamOn | .streamOff | .ack | .resultReport
  | .resetNLow _ _ | .resetNHigh | .powerUp _ _ | .deintegrateCrossing | .deintegrateLimit | .passStart => true
  | _ => false

section
variable {s t : State}

theorem queue_of_effect {f : State → State} (effect : whileLive s f = .next t) (same : (f s).queue = s.queue) :
    t.queue = s.queue :=
  keeps_of_effect (P := fun u => u.queue = s.queue) effect (fun _ => same) rfl

theorem queue_of_row {kind : Byte} {row : List Byte → Bool} {run : List Byte → State → Execution}
    (effect : whileLive s (State.serve kind row run) = .next t) (hrun : ∀ p u, (run p u).2.queue = u.queue) :
    t.queue = s.queue := by
  rcases row_cases effect with rfl | ⟨f, rest, rfl⟩
  · rfl
  · exact hrun f.payload (s.leaveInbound rest)

/-- A check that refuses leaves it to the rest of the request what becomes of the queue. -/
theorem queue_checked {p : Prop} [Decidable p] {o : ReplyOutcome} {e : Execution} (same : e.2.queue = s.queue) :
    (if p then refuse o s else e).2.queue = s.queue := by
  split
  · rfl
  · exact same

end

theorem runIdentify_queue (p : List Byte) (s : State) : (runIdentify p s).2.queue = s.queue := queue_checked rfl

theorem runStatus_queue (p : List Byte) (s : State) : (runStatus p s).2.queue = s.queue := queue_checked rfl

theorem runChannelGet_queue (p : List Byte) (s : State) : (runChannelGet p s).2.queue = s.queue := by
  refine queue_checked ?_
  split <;> rfl

theorem runListClear_queue (p : List Byte) (s : State) : (runListClear p s).2.queue = s.queue :=
  queue_checked (queue_checked rfl)

theorem runListAppend_queue (p : List Byte) (s : State) : (runListAppend p s).2.queue = s.queue := by
  rcases runListAppend_cases p s with e | ⟨-, l, e⟩ <;> rw [e]; rfl

theorem runListRead_queue (p : List Byte) (s : State) : (runListRead p s).2.queue = s.queue :=
  queue_checked (queue_checked rfl)

theorem runScanSet_queue (p : List Byte) (s : State) : (runScanSet p s).2.queue = s.queue := by
  rcases runScanSet_cases p s with e | ⟨-, c, e⟩ <;> rw [e]; rfl

theorem runStart_queue (p : List Byte) (s : State) : (runStart p s).2.queue = s.queue :=
  queue_checked (queue_checked (queue_checked rfl))

theorem State.pauseScan_queue {s t : State} (h : s.pauseScan = some t) : t.queue = s.queue := by
  unfold State.pauseScan at h
  split at h
  case h_1 => split at h <;> cases h <;> rfl
  all_goals cases h
  all_goals rfl

theorem runPause_queue (p : List Byte) (s : State) : (runPause p s).2.queue = s.queue := by
  refine queue_checked ?_
  split
  next t h => exact State.pauseScan_queue h
  next => rfl

@[simp] theorem State.triggerLatch_queue (s : State) : s.triggerLatch.queue = s.queue := by
  unfold State.triggerLatch
  split
  · rfl
  all_goals split <;> rfl

theorem runTrigger_queue (p : List Byte) (s : State) : (runTrigger p s).2.queue = s.queue :=
  queue_checked s.triggerLatch_queue

theorem runEvents_queue (p : List Byte) (s : State) : (runEvents p s).2.queue = s.queue :=
  queue_checked (queue_checked rfl)

theorem runSubscribe_queue (p : List Byte) (s : State) : (runSubscribe p s).2.queue = s.queue :=
  queue_checked (queue_checked rfl)

theorem runTripControl_queue (p : List Byte) (s : State) : (runTripControl p s).2.queue = s.queue := by
  refine queue_checked ?_
  split <;> rfl

@[simp] theorem State.answerUnknownKind_queue (s : State) : s.answerUnknownKind.queue = s.queue := by
  unfold State.answerUnknownKind
  split
  · split <;> rfl
  · rfl

@[simp] theorem State.answerBadToken_queue (s : State) : s.answerBadToken.queue = s.queue := by
  unfold State.answerBadToken
  split
  · split <;> rfl
  · rfl

@[simp] theorem State.answerRepeat_queue (s : State) : s.answerRepeat.queue = s.queue := by
  unfold State.answerRepeat
  split
  · split
    · split <;> rfl
    · rfl
  · rfl

@[simp] theorem State.gapExpiry_queue (s : State) : s.gapExpiry.queue = s.queue := by
  unfold State.gapExpiry; split <;> rfl

@[simp] theorem State.sendOldestReply_queue (s : State) : s.sendOldestReply.queue = s.queue := by
  unfold State.sendOldestReply; split <;> rfl

@[simp] theorem State.sendEventReport_queue (s : State) : s.sendEventReport.queue = s.queue := by
  unfold State.sendEventReport; split <;> rfl

@[simp] theorem State.endZero_queue (s : State) : s.endZero.queue = s.queue := by
  unfold State.endZero; split <;> rfl

@[simp] theorem State.endIntegrate_queue (input : MeanInput) (s : State) : (s.endIntegrate input).queue = s.queue := by
  unfold State.endIntegrate; split <;> rfl

@[simp] theorem State.settled_queue (s : State) : s.settled.queue = s.queue := State.startConversion_queue _

@[simp] theorem State.endBreak_queue (s : State) : s.endBreak.queue = s.queue := by
  unfold State.endBreak
  split
  case h_1 =>
    dsimp only
    split
    · exact State.settled_queue _
    · rfl
  all_goals rfl

@[simp] theorem State.endSettle_queue (s : State) : s.endSettle.queue = s.queue := by
  unfold State.endSettle
  split
  case h_1 => exact State.settled_queue _
  all_goals rfl

@[simp] theorem State.railInside_queue (s : State) : s.railInside.queue = s.queue := by
  unfold State.railInside; split <;> rfl

@[simp] theorem State.railFault_queue (cause : RailCause) (s : State) : (s.railFault cause).queue = s.queue := by
  unfold State.railFault; dsimp only; split <;> rfl

@[simp] theorem State.railTimeout_queue (s : State) : s.railTimeout.queue = s.queue := by
  unfold State.railTimeout
  split
  case h_1 => exact State.railFault_queue _ _
  all_goals rfl

@[simp] theorem State.railDrop_queue (s : State) : s.railDrop.queue = s.queue := by
  unfold State.railDrop
  split
  case h_1 => exact s.railFault_queue _
  all_goals rfl

@[simp] theorem State.holdEnds_queue (s : State) : s.holdEnds.queue = s.queue := by
  unfold State.holdEnds; split <;> rfl

@[simp] theorem State.latePass_queue (s : State) : s.latePass.queue = s.queue := by
  unfold State.latePass; split <;> rfl

@[simp] theorem State.paceExpiry_queue (s : State) : s.paceExpiry.queue = s.queue := by
  cases runs : s.seq.paceTimer with
  | none => rw [State.paceExpiry_of_stopped runs]
  | some g =>
    cases inside : s.withinPass with
    | true => rw [State.paceExpiry_within_pass runs inside, State.latePass_queue]; rfl
    | false => rw [State.paceExpiry_between_passes runs inside]; rfl

@[simp] theorem State.clockWrap_queue (s : State) : s.clockWrap.queue = s.queue := by
  unfold State.clockWrap; split <;> rfl

@[simp] theorem State.retransmit_queue (s : State) : s.retransmit.queue = s.queue := by
  unfold State.retransmit
  split
  · rfl
  · dsimp only
    split <;> rfl

/-- The other commands leave the result queue as it was. -/
theorem exec_keeps_queue {c : Instr} {s t : State} (effect : exec c s = .next t) (quiet : touchesQueue c = false) :
    t.queue = s.queue := by
  cases c with
  | identify => exact queue_of_row effect runIdentify_queue
  | status => exact queue_of_row effect runStatus_queue
  | channelGet => exact queue_of_row effect runChannelGet_queue
  | listClear => exact queue_of_row effect runListClear_queue
  | listAppend => exact queue_of_row effect runListAppend_queue
  | listRead => exact queue_of_row effect runListRead_queue
  | scanSet => exact queue_of_row effect runScanSet_queue
  | start => exact queue_of_row effect runStart_queue
  | pause => exact queue_of_row effect runPause_queue
  | trigger => exact queue_of_row effect runTrigger_queue
  | events => exact queue_of_row effect runEvents_queue
  | subscribe => exact queue_of_row effect runSubscribe_queue
  | modeFollow | modeLatched | clearLatch => exact queue_of_row effect runTripControl_queue
  | unknownKind => exact queue_of_effect effect s.answerUnknownKind_queue
  | badToken => exact queue_of_effect effect s.answerBadToken_queue
  | repeatCacheMatch => exact queue_of_effect effect s.answerRepeat_queue
  | goodCharacter b => exact queue_of_effect (f := fun u => u.withLink (u.link.character b)) effect rfl
  | damagedCharacter => exact queue_of_effect (f := fun u => u.withLink u.link.damaged) effect rfl
  | frameSent => exact queue_of_effect (f := fun u => u.withLink { u.link with sending := none }) effect rfl
  | gapTimerExpiry => exact queue_of_effect effect s.gapExpiry_queue
  | sendReply => exact queue_of_effect effect s.sendOldestReply_queue
  | eventReport => exact queue_of_effect effect s.sendEventReport_queue
  | trigEdge => exact queue_of_effect effect s.triggerLatch_queue
  | zeroEnd => exact queue_of_effect effect s.endZero_queue
  | integrateEnd input => exact queue_of_effect effect (s.endIntegrate_queue input)
  | breakEnd => exact queue_of_effect effect s.endBreak_queue
  | settleEnd => exact queue_of_effect effect s.endSettle_queue
  | railInsideWindow => exact queue_of_effect effect s.railInside_queue
  | startTimeout => exact queue_of_effect effect s.railTimeout_queue
  | drop => exact queue_of_effect effect s.railDrop_queue
  | holdExpiry => exact queue_of_effect effect s.holdEnds_queue
  | paceTimerExpiry => exact queue_of_effect effect s.paceExpiry_queue
  | scanClockWrap => exact queue_of_effect effect s.clockWrap_queue
  | retransmitExpiry => exact queue_of_effect effect s.retransmit_queue
  | _ => cases quiet

end Sys2Proof.Machine
end

section
namespace Sys2Proof.Machine

/-! PROOFS. The commands that change the result queue keep its order, and every step does (R108, R110). -/

/-- The order holds with numbers left for a record of each of 64 steps, the list has no more steps, and a scan that may
produce a record has its slot free (R73, R110). -/
structure RoomForPass (base : Word16) (s : State) : Prop where
  ordered : Ordered base 64 s
  steps : s.list.length ≤ 64
  slot : s.seq.scan = .armed ∨ s.seq.scan = .running ∨ s.seq.scan = .pausing → s.queue.staged = none

/-- The laws give the list and the slot (R73, R110). -/
theorem roomForPass_of_lawful {base : Word16} {s : State} (lawful : Lawful s) (order : SeqLaw base s.queue)
    (room : seqDistance base s.queue.nextSeq + 64 < 65536) : RoomForPass base s := by
  obtain ⟨-, -, -, steps, ⟨-, slot⟩, -⟩ := lawful
  refine ⟨⟨order, room⟩, steps, fun scan => staged_none fun occupied => ?_⟩
  obtain ⟨-, place⟩ := slot occupied
  rcases scan with scan | scan | scan <;> simp [scan] at place

/-- Only the queue, the list and the scan state are looked at. -/
theorem RoomForPass.congr {base : Word16} {s t : State} (h : RoomForPass base s) (queue : t.queue = s.queue)
    (list : t.list = s.list) (scan : t.seq.scan = s.seq.scan) : RoomForPass base t :=
  ⟨h.ordered.of_queue queue, by rw [list]; exact h.steps, by rw [scan, queue]; exact h.slot⟩

/-- Marking some records in the middle of the list leaves the records as they are (R131). -/
theorem records_composed (l : List Queued) (k n : Nat) :
    (l.take k ++ ((l.drop k).take n).map (fun e : Queued => { e with sent := true }) ++ l.drop (k + n)).map Queued.record
      = l.map Queued.record := by
  have cut : l = l.take k ++ ((l.drop k).take n ++ l.drop (k + n)) := by
    rw [← List.drop_drop, List.take_append_drop, List.take_append_drop]
  conv_rhs => rw [cut]
  simp [Function.comp_def]

namespace RoomForPass
variable {base : Word16} {s t : State} (h : RoomForPass base s)
include h

theorem advance (n : Nat) : RoomForPass base (s.advance n) := h.congr rfl rfl (Sequencer.advance_scan _ _ _)

/-! ## The records of a pass -/

/-- A continuation taken with the slot free starts the steps of the list at most. -/
theorem takeContinuation {c : Continuation} (free : s.queue.staged = none) (queue : t.queue = s.queue)
    (list : t.list = s.list) : SeqLaw base (t.takeContinuation c).queue := by
  have few : t.stepsAhead c ≤ 64 := (t.stepsAhead_le c).trans (by rw [list]; exact h.steps)
  exact ((h.ordered.of_queue queue).mono few).takeContinuation (by rw [queue]; exact free)

theorem completeConversion (o : ConvOutcome) : SeqLaw base (s.completeConversion o).queue := by
  have least : Ordered base (s.list.length - 1 + 1) s.abortConversion :=
    (h.ordered.mono (by have := h.steps; omega)).of_queue rfl
  have judged (st : Step) (scan : s.seq.scan = .running ∨ s.seq.scan = .pausing) :
      SeqLaw base (s.abortConversion.judge st o).queue := Ordered.judge (h.slot (.inr scan)) least
  unfold State.completeConversion State.takeOutcome
  split
  case h_1 scan =>
    split
    · exact judged _ (.inl scan)
    · exact h.ordered.law
  case h_2 scan =>
    split
    · exact judged _ (.inr scan)
    · exact h.ordered.law
  all_goals exact h.ordered.law

theorem crossThreshold : SeqLaw base s.crossThreshold.queue := by
  unfold State.crossThreshold
  split
  case h_1 => exact (h.advance _).completeConversion _
  all_goals exact h.ordered.law

theorem reachLimit : SeqLaw base s.reachLimit.queue := by
  unfold State.reachLimit
  split
  case h_1 => exact (h.advance _).completeConversion _
  all_goals exact h.ordered.law

theorem startPass : SeqLaw base s.startPass.queue := by
  unfold State.startPass
  split
  next starts => exact h.takeContinuation (h.slot (.inl starts.1)) rfl rfl
  next => exact h.ordered.law

theorem runResume (p : List Byte) : SeqLaw base (runResume p s).2.queue := by
  have resumePaused : SeqLaw base s.resumePaused.queue := by
    unfold State.resumePaused
    split
    case h_4 free _ => exact h.takeContinuation free rfl rfl
    all_goals exact h.ordered.law
  unfold Machine.runResume
  split
  · exact h.ordered.law
  split
  next t resumed =>
    unfold State.resumeScan at resumed
    split at resumed <;> cases resumed
    · exact h.ordered.law
    · exact resumePaused
    · exact h.ordered.law
  next => exact h.ordered.law

/-! ## The channels (R101, R102) -/

theorem channelChanged (n : Fin 24) : SeqLaw base (s.channelChanged n).queue := by
  have law := h.ordered.law
  unfold State.channelChanged
  split
  · exact law
  split
  · split
    next scan => exact h.takeContinuation (h.slot (.inr (.inl scan))) rfl rfl
    · exact law
    · split
      · split <;> exact law
      · exact law
    · split
      · split <;> exact law
      · exact law
      · exact law
    all_goals exact law
  · exact law

theorem runChannelSet (p : List Byte) : SeqLaw base (runChannelSet p s).2.queue := by
  unfold Machine.runChannelSet
  split
  · exact h.ordered.law
  split
  · exact h.ordered.law
  split
  · exact h.ordered.law
  · exact channelChanged (s := (s.setChannel _ _).updateLine) (h.congr rfl rfl rfl) _

theorem runChannelOff (p : List Byte) : SeqLaw base (runChannelOff p s).2.queue := by
  unfold Machine.runChannelOff
  split
  · exact h.ordered.law
  split
  · exact h.ordered.law
  · exact channelChanged (s := s.setChannel _ _) (h.congr rfl rfl rfl) _

/-! ## Removals, and what a hold's end brings (R94, R116, R120, R137) -/

theorem holdOver (free : s.queue.staged = none) : SeqLaw base s.holdOver.queue := by
  unfold State.holdOver
  split
  · exact h.takeContinuation free rfl rfl
  all_goals exact h.ordered.law

/-- A staged record that joins the list was the last of the numbers already (R116). -/
theorem drain (removed : Nat) : SeqLaw base (s.drain removed).queue := by
  unfold State.drain
  split
  next r staged =>
    split
    · have joined := ResultQueue.numbers_joined staged
      exact holdOver (s := s.withQueue { s.queue.append r with staged := none })
        ⟨h.ordered.of_removal (joined ▸ List.Sublist.refl _) rfl, h.steps, fun _ => rfl⟩ rfl
    · exact h.ordered.law
  next => exact h.ordered.law

/-- Records that leave the list may drain the slot. -/
theorem remove {l : List Queued} (sub : l.Sublist s.queue.list) (x : Stream) (removed : Nat) :
    SeqLaw base (((s.withQueue { s.queue with list := l }).withStream x).drain removed).queue :=
  drain (s := (s.withQueue { s.queue with list := l }).withStream x)
    ⟨h.ordered.of_removal (ResultQueue.numbers_sublist sub) rfl, h.steps, h.slot⟩ removed

theorem runFetch (p : List Byte) : SeqLaw base (runFetch p s).2.queue := by
  unfold Machine.runFetch
  split
  · exact h.ordered.law
  split
  · exact h.ordered.law
  split
  · exact h.ordered.law
  · exact h.remove (List.drop_sublist _ _) s.stream _

theorem runAck (p : List Byte) : SeqLaw base (runAck p s).2.queue := by
  unfold Machine.runAck
  split
  · exact h.ordered.law
  split
  · exact h.ordered.law
  split
  · exact h.remove List.filter_sublist _ _
  · split <;> exact h.ordered.law

/-! ## Marks (R128, R129, R131) -/

theorem remark {l : List Queued} (same : l.map (·.record) = s.queue.list.map (·.record)) :
    SeqLaw base { s.queue with list := l } :=
  seqLaw_of_removal h.ordered.law (ResultQueue.numbers_remarked same ▸ List.Sublist.refl _) rfl

theorem runStream (p : List Byte) : SeqLaw base (runStream p s).2.queue := by
  have fresh : SeqLaw base s.makeAllFresh.queue := h.remark (by simp [Function.comp_def])
  unfold Machine.runStream
  split
  · exact h.ordered.law
  split
  · exact h.ordered.law
  split <;> exact fresh

theorem sendResultReport : SeqLaw base s.sendResultReport.queue := by
  unfold State.sendResultReport
  split
  case h_1 =>
    split
    · exact h.remark (records_composed _ _ _)
    · exact h.ordered.law
  all_goals exact h.ordered.law

/-! ## STOP and RESTART (R99, R188) -/

theorem runStop (p : List Byte) : SeqLaw base (runStop p s).2.queue := by
  unfold Machine.runStop
  split
  · exact h.ordered.law
  by_cases idle : s.seq.scan = .idle
  · rw [State.stopScan_of_idle idle]; exact h.ordered.law
  · rw [State.stopScan_eq idle]
    exact seqLaw_of_removal h.ordered.law s.queue.numbers_discarded rfl

theorem runRestart (p : List Byte) : SeqLaw base (runRestart p s).2.queue := by
  unfold Machine.runRestart
  split
  · exact h.ordered.law
  · exact seqLaw_reset base

/-! ## Every command and every step -/

theorem of_row {kind : Byte} {row : List Byte → Bool} {run : List Byte → State → Execution}
    (effect : whileLive s (State.serve kind row run) = .next t)
    (hrun : ∀ {u}, RoomForPass base u → ∀ p, SeqLaw base (run p u).2.queue) : SeqLaw base t.queue := by
  rcases row_cases effect with rfl | ⟨f, rest, rfl⟩
  · exact h.ordered.law
  · exact hrun (u := s.leaveInbound rest) (h.congr rfl rfl rfl) f.payload

theorem of_effect {f : State → State} (effect : whileLive s f = .next t) (kept : SeqLaw base (f s).queue) :
    SeqLaw base t.queue :=
  keeps_of_effect (P := fun u => SeqLaw base u.queue) effect (fun _ => kept) h.ordered.law

theorem exec {c : Instr} (effect : exec c s = .next t) : SeqLaw base t.queue := by
  cases touches : touchesQueue c with
  | false => rw [exec_keeps_queue effect touches]; exact h.ordered.law
  | true =>
    cases c with
    | restart => exact h.of_row effect runRestart
    | channelSet => exact h.of_row effect runChannelSet
    | channelOff => exact h.of_row effect runChannelOff
    | stop => exact h.of_row effect runStop
    | resume => exact h.of_row effect runResume
    | fetch => exact h.of_row effect runFetch
    | streamOn | streamOff => exact h.of_row effect runStream
    | ack => exact h.of_row effect runAck
    | resultReport => exact h.of_effect effect h.sendResultReport
    | deintegrateCrossing => exact h.of_effect effect h.crossThreshold
    | deintegrateLimit => exact h.of_effect effect h.reachLimit
    | passStart => exact h.of_effect effect h.startPass
    | resetNLow r1 r0 => rw [← Host.Outcome.next.inj effect]; exact seqLaw_reset base
    | resetNHigh =>
      rw [← Host.Outcome.next.inj effect]
      split
      · exact seqLaw_reset base
      · exact h.ordered.law
    | powerUp r1 r0 => rw [← Host.Outcome.next.inj effect]; exact seqLaw_reset base
    | _ => cases touches

theorem step (effect : step s = .next t) : SeqLaw base t.queue := by
  unfold Machine.step at effect
  split at effect
  · rw [← Host.Outcome.next.inj effect, State.tick]
    split
    · exact h.ordered.law
    · exact (h.advance 1).ordered.law
  next c rest _ => exact exec (s := s.withPending rest) (h.congr rfl rfl rfl) effect

end RoomForPass

/-- Settles O34: a production puts its number last, and a step of a lawful part has numbers left for all that it
produces. -/
theorem productionKeepsSequenceOrder : Obligations.ProductionKeepsSequenceOrder := by
  refine ⟨fun base s draft order staged room => ?_, fun base s t lawful order room effect => ?_⟩
  · obtain ⟨numbers, next, -⟩ := State.produce_numbers staged draft
    exact ⟨seqLaw_of_production order numbers next room, next⟩
  · exact (roomForPass_of_lawful lawful order room).step effect

end Sys2Proof.Machine
end

section
namespace Sys2Proof.Machine

/-! PROOFS. The stream: its law in every step, STREAM ON and OFF, the retransmit timer, and RESULT reports with the bytes
of the records they carry (R126 to R134, R192, R197). -/

/-- Settles O58: the law is kept by the single moves, and so by every step. -/
theorem stepKeepsTheStreamLaw : Obligations.StepKeepsTheStreamLaw :=
  fun _ _ law effect => streamLaw_keptByCommands.step effect law

/-! ## STREAM ON and STREAM OFF (R127 to R129) -/

theorem runStream_badLength {p : List Byte} (h : p.length ≠ 2) (s : State) : runStream p s = refuse .badLength s :=
  if_pos h

/-- A STREAM of two bytes is refused or done by its mode and its window (R127). -/
theorem runStream_pair (mode w : Byte) (s : State) : runStream [mode, w] s
    = if streamValuesLegal [mode, w] = false then refuse .badValue s
      else if mode.toNat = 1 then replyDone [] (s.streamOn w.toNat) else replyDone [] s.streamOff :=
  if_neg (not_not_intro rfl)

/-- The mode is OFF, or it is ON with a window from 1 to 8 (R127). -/
theorem streamValuesLegal_pair (mode w : Byte) : streamValuesLegal [mode, w] = true
    ↔ mode.toNat = 0 ∨ mode.toNat = 1 ∧ 1 ≤ w.toNat ∧ w.toNat ≤ 8 := by
  simp [streamValuesLegal, field8, Config.maxWindow, and_assoc]

theorem runStream_badValue {mode w : Byte} (illegal : ¬(mode.toNat = 0 ∨ mode.toNat = 1 ∧ 1 ≤ w.toNat ∧ w.toNat ≤ 8))
    (s : State) : runStream [mode, w] s = refuse .badValue s := by
  rw [← streamValuesLegal_pair, Bool.not_eq_true] at illegal
  rw [runStream_pair, if_pos illegal]

theorem runStream_on {w : Byte} (least : 1 ≤ w.toNat) (most : w.toNat ≤ 8) (s : State) :
    runStream [0x01, w] s = replyDone [] (s.streamOn w.toNat) := by
  have legal := (streamValuesLegal_pair 0x01 w).2 (.inr ⟨rfl, least, most⟩)
  exact (runStream_pair _ w s).trans ((if_neg (ne_false_of_eq_true legal)).trans (if_pos rfl))

theorem runStream_off (w : Byte) (s : State) : runStream [0x00, w] s = replyDone [] s.streamOff := by
  have legal := (streamValuesLegal_pair 0x00 w).2 (.inl rfl)
  exact (runStream_pair _ w s).trans ((if_neg (ne_false_of_eq_true legal)).trans (if_neg (by decide)))

/-- A STREAM of another length belongs to no single row, and both answer it (log entry 4). -/
theorem isStream_of_badLength {p : List Byte} (h : p.length ≠ 2) : isStreamOn p = true ∧ isStreamOff p = true := by
  simp [isStreamOn, isStreamOff, h]

/-- A STREAM whose mode is neither OFF nor ON belongs to no single row, and both answer it (log entry 4). -/
theorem isStream_of_badMode {mode w : Byte} (h : 1 < mode.toNat) :
    isStreamOn [mode, w] = true ∧ isStreamOff [mode, w] = true := by
  have neither : mode.toNat ≠ 0 ∧ mode.toNat ≠ 1 := by omega
  simpa [isStreamOn, isStreamOff, field8] using neither

/-- Settles O36: the request is refused for its length, then for its values, and otherwise its mode tells ON from OFF. -/
theorem streamRequestsMakeEveryRecordFresh : Obligations.StreamRequestsMakeEveryRecordFresh := by
  intro s token p rest h
  refine ⟨?_, ?_, ?_, ?_, fun length => ?_⟩
  · rintro w rfl least most
    exact row_does h rfl (runStream_on least most _)
  · rintro w rfl
    exact row_does h rfl (runStream_off w _)
  · rintro w rfl outside
    have illegal : ¬((0x01 : Byte).toNat = 0 ∨ (0x01 : Byte).toNat = 1 ∧ 1 ≤ w.toNat ∧ w.toNat ≤ 8) := by
      simp only [BitVec.reduceToNat]
      omega
    exact row_refuses h rfl (runStream_badValue illegal)
  · rintro mode w rfl other
    obtain ⟨on, off⟩ := isStream_of_badMode (w := w) other
    have refused := runStream_badValue (mode := mode) (w := w) (by omega)
    exact ⟨row_refuses h on refused, row_refuses h off refused⟩
  · obtain ⟨on, off⟩ := isStream_of_badLength length
    exact ⟨row_refuses h on (runStream_badLength length), row_refuses h off (runStream_badLength length)⟩

/-! ## The retransmit timer (R134) -/

theorem State.retransmit_of_stopped {s : State} (stopped : s.stream.timer = none) : s.retransmit = s := by
  rw [State.retransmit, stopped]

section
variable {s : State} {g : Nat}

/-- An expiry before the eighth in a row returns what is in flight. -/
theorem State.retransmit_returns (running : s.stream.timer = some g) (few : s.stream.timeouts + 1 < 8) :
    s.retransmit = (s.advance (10000 - g)).withStream { s.stream with
      inFlight := 0, timer := none, timeouts := s.stream.timeouts + 1 } := by
  rw [State.retransmit, running]
  exact if_neg (Nat.not_le_of_lt few)

/-- The eighth expiry in a row returns what is in flight and stalls the stream. -/
theorem State.retransmit_stalls (running : s.stream.timer = some g) (eighth : 8 ≤ s.stream.timeouts + 1) :
    s.retransmit = ((s.advance (10000 - g)).withStream { s.stream with
      state := .stalled, inFlight := 0, timer := none, timeouts := s.stream.timeouts + 1 }).raise
        .streamStalled s.queue.oldestSeq := by
  rw [State.retransmit, running]
  exact if_pos eighth

end

/-- Settles O38: the timer stands still, or it runs to its end for the eighth time in a row or for an earlier one. -/
theorem retransmitExpiryReturnsTheInFlightRecords : Obligations.RetransmitExpiryReturnsTheInFlightRecords := by
  intro s g live
  have effect : exec .retransmitExpiry s = .next s.retransmit := whileLive_of_live live _
  rw [effect]
  refine ⟨fun stopped => ?_, fun running few => ?_, fun e more running eighth list => ?_⟩
  · rw [State.retransmit_of_stopped stopped]
  · rw [State.retransmit_returns running few]
  · have oldest : s.queue.oldestSeq = e.record.seq := by rw [ResultQueue.oldestSeq, list]
    rw [State.retransmit_stalls running eighth, oldest]

/-! ## The numbers of a reply or a report (R192) -/

/-- Two bytes, high byte first, hold a number below 65536. -/
theorem byteOf_pair {n : Nat} (h : n < 65536) : (byteOf (n / 256)).toNat * 256 + (byteOf n).toNat = n := by
  simp only [byteOf, BitVec.toNat_ofNat]
  omega

/-- Four bytes, high byte first, hold a number below 4294967296. -/
theorem byteOf_quadruple {n : Nat} (h : n < 4294967296) :
    (((byteOf (n / 16777216)).toNat * 256 + (byteOf (n / 65536)).toNat) * 256 + (byteOf (n / 256)).toNat) * 256
      + (byteOf n).toNat = n :=
  (field32_append [] _ _ _ _ []).symm.trans (field32_bytes32 [] [] h)

/-- Two's complement: a number is that of its bits, less 2 to the width when the sign bit is set. -/
theorem eq_toNat_ofInt_sub {w : Nat} (pos : 0 < w) {i : Int} (low : -2 ^ (w - 1) ≤ i) (high : i < 2 ^ (w - 1)) :
    i = ((BitVec.ofInt w i).toNat : Int) - (if 2 ^ w ≤ 2 * (BitVec.ofInt w i).toNat then 2 ^ w else 0) := by
  have same := BitVec.toInt_ofInt_eq_self pos low high
  rw [BitVec.toInt_eq_toNat_cond] at same
  by_cases negative : 2 ^ w ≤ 2 * (BitVec.ofInt w i).toNat
  · rw [if_pos negative]
    rw [if_neg (not_lt.2 negative)] at same
    exact_mod_cast same.symm
  · rw [if_neg negative, sub_zero]
    rw [if_pos (not_le.1 negative)] at same
    exact same.symm

/-- A signed two-byte number is negative from a high byte of 80h on. -/
theorem signedBytes16_value {i : Int} (low : -32768 ≤ i) (high : i ≤ 32767) :
    ∃ b1 b0 : Byte, signedBytes16 i = [b1, b0]
      ∧ i = (b1.toNat * 256 + b0.toNat : Nat) - (if 128 ≤ b1.toNat then 65536 else 0) := by
  refine ⟨_, _, rfl, ?_⟩
  have value := eq_toNat_ofInt_sub (w := 16) (by decide) low (Int.lt_add_one_of_le high)
  have bits := byteOf_pair (BitVec.ofInt 16 i).isLt
  have b0 := (byteOf (BitVec.ofInt 16 i).toNat).isLt
  have sign : 128 ≤ (byteOf ((BitVec.ofInt 16 i).toNat / 256)).toNat ↔ 2 ^ 16 ≤ 2 * (BitVec.ofInt 16 i).toNat := by
    omega
  simpa only [bits, sign, Int.reducePow] using value

/-- A signed four-byte number is negative from a high byte of 80h on. -/
theorem signedBytes32_value {i : Int} (low : -2147483648 ≤ i) (high : i ≤ 2147483647) :
    ∃ b3 b2 b1 b0 : Byte, signedBytes32 i = [b3, b2, b1, b0]
      ∧ i = (((b3.toNat * 256 + b2.toNat) * 256 + b1.toNat) * 256 + b0.toNat : Nat)
          - (if 128 ≤ b3.toNat then 4294967296 else 0) := by
  refine ⟨_, _, _, _, rfl, ?_⟩
  have value := eq_toNat_ofInt_sub (w := 32) (by decide) low (Int.lt_add_one_of_le high)
  have bits := byteOf_quadruple (BitVec.ofInt 32 i).isLt
  have b2 := (byteOf ((BitVec.ofInt 32 i).toNat / 65536)).isLt
  have b1 := (byteOf ((BitVec.ofInt 32 i).toNat / 256)).isLt
  have b0 := (byteOf (BitVec.ofInt 32 i).toNat).isLt
  have sign : 128 ≤ (byteOf ((BitVec.ofInt 32 i).toNat / 16777216)).toNat
      ↔ 2 ^ 32 ≤ 2 * (BitVec.ofInt 32 i).toNat := by
    omega
  simpa only [bits, sign, Int.reducePow] using value

/-! ## The bytes of a record (R197) -/

/-- Each flag is a bit of its own, and the high bit is 0. -/
theorem RecordFlags.getLsbD_byte (f : RecordFlags) :
    f.byte.getLsbD 0 = f.overrange ∧ f.byte.getLsbD 1 = f.hunt ∧ f.byte.getLsbD 2 = f.fast
      ∧ f.byte.getLsbD 3 = f.mean ∧ f.byte.getLsbD 4 = f.skipped ∧ f.byte.getLsbD 5 = f.redone
      ∧ f.byte.getLsbD 6 = f.trip ∧ f.byte.getLsbD 7 = false := by
  obtain ⟨overrange, hunt, fast, mean, skipped, redone, trip⟩ := f
  revert overrange hunt fast mean skipped redone trip
  decide

/-- The function stands in the high half of its byte: 1, 2 or 3, and 0 for a skipped step. -/
theorem functionRangeByte_eq (f : Option MeasFunction) (range : Nat) : functionRangeByte f range
    = byteOf ((match f with | none => 0 | some .volt => 16 | some .curr => 32 | some .ohms => 48) + range) := by
  rcases f with _ | _ | _ | _ <;> rfl

/-! ## RESULT reports (R131, R132, R185) -/

/-- With the stream not ON, the window full, or nothing unsent, no report is composed (R131, R185). -/
theorem State.sendResultReport_of_not_due {s : State}
    (h : s.stream.state ≠ .on ∨ s.stream.window ≤ s.stream.inFlight ∨ s.queue.list.length ≤ s.stream.inFlight) :
    s.sendResultReport = s := by
  have blocked : ¬(s.stream.state = .on ∧ s.stream.inFlight < s.stream.window
      ∧ s.stream.inFlight < s.queue.list.length) := by
    rintro ⟨on, room, unsent⟩
    rcases h with off | full | allSent
    · exact off on
    · omega
    · omega
  unfold State.sendResultReport
  split
  · exact if_neg blocked
  all_goals rfl

/-- With no reply waiting and no kind report-due, an idle transmitter composes the report (R131, R185). -/
theorem State.sendResultReport_of_due {s : State} (idle : s.link.sending = none) (replies : s.link.replies = [])
    (quiet : ∀ k : EventKind, (s.events.get k).due = false) (on : s.stream.state = .on)
    (room : s.stream.inFlight < s.stream.window) (unsent : s.stream.inFlight < s.queue.list.length) :
    s.sendResultReport = s.composeResults := by
  have noneDue : s.events.firstDue = none := List.find?_eq_none.2 fun k _ => by simp [quiet k]
  rw [State.sendResultReport, idle, replies, noneDue]
  exact if_pos ⟨on, room, unsent⟩

/-- The composition on a list cut into the records in flight, those the report takes, and the later ones (R131). -/
theorem State.composeResults_of_cut {s : State} {flight taken later : List Queued}
    (list : s.queue.list = flight ++ taken ++ later) (flying : flight.length = s.stream.inFlight)
    (size : s.reportSize = taken.length) :
    s.composeResults = { s with
      queue := { s.queue with list := flight ++ taken.map (fun e => { e with sent := true }) ++ later }
      stream := { s.stream with
        inFlight := s.stream.inFlight + taken.length
        timer := if s.stream.inFlight = 0 then some 0 else s.stream.timer }
      link := { s.link with sending := some (Frame.wire {
        kind := 0x40, token := 0,
        payload := byteOf taken.length :: taken.flatMap fun e => recordBytes e.record }) } } := by
  have before : s.queue.list.take s.stream.inFlight = flight := by
    rw [list, ← flying, List.append_assoc, List.take_left]
  have within : (s.queue.list.drop s.stream.inFlight).take taken.length = taken := by
    rw [list, ← flying, List.append_assoc, List.drop_left, List.take_left]
  have behind : s.queue.list.drop (s.stream.inFlight + taken.length) = later := by
    rw [list, ← flying, ← List.length_append, List.drop_left]
  have payload : recordsBytes s.reported = byteOf taken.length :: taken.flatMap fun e => recordBytes e.record := by
    rw [State.reported, size, within, recordsBytes, List.length_map, List.flatMap_map]
  simp only [State.composeResults, resultReportFrame, before, within, behind, payload, size]
  rfl

/-- Settles O15: no report is composed where none is due; the encodings are read back; and where one is due, its size is
the length of the part of the list that it takes. -/
theorem resultReportTakesTheOldestUnsentRecords : Obligations.ResultReportTakesTheOldestUnsentRecords := by
  refine ⟨fun s notDue => ?_, fun r => ⟨r.flags.byte, ?_, r.flags.getLsbD_byte⟩, fun n => byteOf_toNat,
    fun n h => ⟨_, _, rfl, byteOf_pair h⟩, fun n h => ⟨_, _, _, _, rfl, byteOf_quadruple h⟩,
    fun i => signedBytes16_value, fun i => signedBytes32_value, by decide, by decide, ?_⟩
  · rcases whileLive_cases s State.sendResultReport with ⟨-, held⟩ | ⟨-, live⟩
    · exact held
    · exact live.trans (congrArg _ (State.sendResultReport_of_not_due notDue))
  · rw [recordBytes, functionRangeByte_eq]
    rfl
  · rintro s flight taken later n live idle replies quiet on room list flying rfl takes least
    have lengths : s.queue.list.length = s.stream.inFlight + taken.length + later.length := by
      rw [list, List.length_append, List.length_append, flying]
    have size : s.reportSize = taken.length := by
      rw [least, State.reportSize, lengths, Nat.add_assoc, Nat.add_sub_cancel_left]
      rfl
    have effect : exec .resultReport s = .next s.sendResultReport := whileLive_of_live live _
    rw [effect, State.sendResultReport_of_due idle replies quiet on room (by omega),
      State.composeResults_of_cut list flying size]

end Sys2Proof.Machine
end

section
namespace Sys2Proof.Machine

/-! PROOFS. The limit monitor: the laws that every step keeps, TRIP_CONTROL, and the evaluation of a record. -/

/-- Settles O57: each law is kept by the single moves of the commands, and so by every step. -/
theorem stepKeepsTheEventAndLineLaws : Obligations.StepKeepsTheEventAndLineLaws :=
  ⟨fun _ _ law effect => eventLaw_keptByCommands.step effect law,
    fun _ _ law effect => lineLaw_keptByCommands.step effect law⟩

/-! ## TRIP_CONTROL (R150 to R152) -/

theorem runTripControl_badLength {p : List Byte} (h : p.length ≠ 1) (s : State) :
    runTripControl p s = refuse .badLength s := if_pos h

theorem runTripControl_badValue {op : Byte} (h : 2 < op.toNat) (s : State) :
    runTripControl [op] s = refuse .badValue s := by
  obtain ⟨n, above⟩ : ∃ n, field8 [op] 0 = n + 3 := ⟨op.toNat - 3, (Nat.sub_add_cancel h).symm⟩
  rw [runTripControl, above]
  rfl

/-- Any row of TRIP_CONTROL answers a frame of a wrong length or of an unknown operation (log entry 4). -/
theorem isTripOperation_of_refused {p : List Byte} (h : p.length = 1 → 2 < field8 p 0) (op : Nat) :
    isTripOperation op p = true := by
  by_cases one : p.length = 1
  · have above := h one
    simp [isTripOperation, Nat.not_lt.2 above]
  · simp [isTripOperation, one]

/-- Whichever of the three rows a refused TRIP_CONTROL frame meets, it gives the refusal (R150). -/
theorem exec_tripRow_refused {s : State} {token : Byte} {p : List Byte} {rest : List Frame} {c : Instr}
    {o : ReplyOutcome} (h : s.Executes { kind := 0x32, token := token, payload := p } rest)
    (hp : p.length = 1 → 2 < field8 p 0) (hrun : ∀ u, runTripControl p u = refuse o u)
    (hc : c ∈ [Instr.modeFollow, .modeLatched, .clearLatch]) :
    exec c s = .next (s.answered { kind := 0x32, token := token, payload := p } rest [o.byte]) := by
  have answers (op : Nat) : whileLive s (State.serve 0x32 (isTripOperation op) runTripControl)
      = .next (s.answered { kind := 0x32, token := token, payload := p } rest [o.byte]) :=
    row_refuses h (isTripOperation_of_refused hp op) hrun
  simp only [List.mem_cons, List.not_mem_nil, or_false] at hc
  rcases hc with rfl | rfl | rfl
  · exact answers 0
  · exact answers 1
  · exact answers 2

/-- CLEAR_LATCH in LATCHED mode releases the line with the latch (R152). -/
theorem runTripControl_clears_latched {s : State} (mode : s.limit.mode = .latched) :
    runTripControl [0x02] s
      = replyDone [0x01, 0x00, 0x00] (s.withLimit { s.limit with latch := false, line := false }) := by
  have cleared : s.clearLatch = s.withLimit { s.limit with latch := false, line := false } := by
    rw [State.clearLatch, State.updateLine, State.withLimit_limit, mode]
    rfl
  have effect : runTripControl [0x02] s = replyDone s.clearLatch.tripBytes s.clearLatch := rfl
  rw [effect, cleared, State.tripBytes, State.withLimit_limit, mode]
  rfl

/-- CLEAR_LATCH in FOLLOW mode leaves the line with the channels (R152). -/
theorem runTripControl_clears_follow {s : State} (mode : s.limit.mode = .follow) :
    runTripControl [0x02] s = replyDone [0x00, 0x00, boolByte (anyTripped s.table)]
      (s.withLimit { s.limit with latch := false, line := anyTripped s.table }) := by
  have cleared : s.clearLatch = s.withLimit { s.limit with latch := false, line := anyTripped s.table } := by
    rw [State.clearLatch, State.updateLine, State.withLimit_limit, mode]
    rfl
  have effect : runTripControl [0x02] s = replyDone s.clearLatch.tripBytes s.clearLatch := rfl
  rw [effect, cleared, State.tripBytes, State.withLimit_limit, mode]
  rfl

/-- Settles O43: each operation's row does its own operation, and all three rows refuse alike. -/
theorem tripControlSetsModeOrClearsLatch : Obligations.TripControlSetsModeOrClearsLatch := by
  rintro s token p rest any rfl h
  refine ⟨?_, ?_, ?_, ?_, ?_, fun length c hc => ?_⟩
  · rintro rfl
    exact row_does (t := s.setLineMode .follow) (row := isTripOperation 0) h rfl rfl
  · rintro rfl
    exact row_does (t := s.setLineMode .latched) (row := isTripOperation 1) h rfl rfl
  · rintro rfl mode
    exact row_does (t := s.withLimit { s.limit with latch := false, line := false }) (row := isTripOperation 2) h rfl
      (runTripControl_clears_latched mode)
  · rintro rfl mode
    exact row_does (t := s.withLimit { s.limit with latch := false, line := anyTripped s.table })
      (row := isTripOperation 2) h rfl (runTripControl_clears_follow mode)
  · rintro op rfl above c hc
    exact exec_tripRow_refused h (fun _ => above) (runTripControl_badValue above) hc
  · exact exec_tripRow_refused h (fun one => absurd one length) (runTripControl_badLength length) hc

/-! ## The evaluation of a record (R145 to R149) -/

/-- A record is outside its window for being OVER or for its value (R146). -/
theorem classify_eq_outside {w : Window} {r : Record} :
    classify w r = .outside ↔ r.flags.overrange = true ∨ r.value < w.low ∨ w.high < r.value := by
  unfold classify
  split_ifs with isOver beyond band
  · simp [isOver]
  · simp [beyond]
  · simp [isOver, beyond]
  · simp [isOver, beyond]

/-- The clearing band lies within the window, for the hysteresis is no negative number (R8, R146). -/
theorem classify_eq_clearingBand {w : Window} {r : Record} :
    classify w r = .clearingBand ↔ r.flags.overrange = false ∧ w.low + w.hysteresis ≤ r.value
      ∧ r.value ≤ w.high - w.hysteresis := by
  unfold classify
  split_ifs with isOver beyond band
  · simp [isOver]
  · simp only [false_iff, not_and]
    omega
  · simpa [isOver] using band
  · simpa [isOver] using band

/-- A table with a TRIPPED record written holds the line up in FOLLOW (R149). -/
theorem anyTripped_set {t : Vector Channel 24} {n : Nat} (hn : n < 24) {c : Channel}
    (h : c.trip = .tripped) : anyTripped (t.set n c) = true := by
  have written : c ∈ (t.set n c).toList := by
    rw [Vector.mem_toList_iff]
    exact Vector.mem_set hn
  exact List.any_eq_true.2 ⟨c, written, decide_eq_true h⟩

/-- A channel that has just tripped with the latch set holds the line up in either mode (R149). -/
theorem lineLevel_set_tripped {t : Vector Channel 24} {n : Nat} (hn : n < 24) {c : Channel} (h : c.trip = .tripped)
    (m : LineMode) : lineLevel m true (t.set n c) = true := by
  cases m with
  | follow => exact anyTripped_set hn h
  | latched => rfl

section
variable {s : State} {r : Record} {w : Window}

/-- Row 1 of the table: a CLEAR channel trips on a record outside its window, and the line is up in either mode (R147,
R149). -/
theorem State.evaluate_trips (measured : r.flags.skipped = false) (window : s.table[r.channel].window = some w)
    (trip : s.table[r.channel].trip = .clear) (outside : classify w r = .outside) :
    s.evaluate r = ({ r with flags := { r.flags with trip := true } },
      { s with table := s.table.set r.channel { s.table[r.channel] with trip := .tripped }
               limit := { s.limit with latch := true, line := true }
               events := s.events.raise .trip (BitVec.ofNat 16 r.channel) }) := by
  simp only [State.evaluate, measured, window, trip, outside, State.updateLine, State.withLimit_limit,
    State.withLimit_table, State.setChannel_eq, State.withTable_table, lineLevel_set_tripped]
  rfl

/-- A CLEAR channel stays CLEAR on a record that is not outside its window (R147). -/
theorem State.evaluate_stays_clear (measured : r.flags.skipped = false) (window : s.table[r.channel].window = some w)
    (trip : s.table[r.channel].trip = .clear) (within : classify w r ≠ .outside) : s.evaluate r = (r, s) := by
  conv_lhs => simp only [State.evaluate, measured, window, trip]
  cases e : classify w r with
  | outside => exact absurd e within
  | between | clearingBand => rfl

/-- A TRIPPED channel marks each further record outside its window (R147). -/
theorem State.evaluate_marks (measured : r.flags.skipped = false) (window : s.table[r.channel].window = some w)
    (trip : s.table[r.channel].trip = .tripped) (outside : classify w r = .outside) :
    s.evaluate r = ({ r with flags := { r.flags with trip := true } }, s) := by
  simp only [State.evaluate, measured, window, trip, outside]

/-- A TRIPPED channel stays TRIPPED between the window and its clearing band (R147). -/
theorem State.evaluate_stays_tripped (measured : r.flags.skipped = false) (window : s.table[r.channel].window = some w)
    (trip : s.table[r.channel].trip = .tripped) (between : classify w r = .between) : s.evaluate r = (r, s) := by
  simp only [State.evaluate, measured, window, trip, between]

/-- A TRIPPED channel returns to CLEAR in the clearing band, and the line follows the channels in FOLLOW alone (R147,
R149). -/
theorem State.evaluate_clears (measured : r.flags.skipped = false) (window : s.table[r.channel].window = some w)
    (trip : s.table[r.channel].trip = .tripped) (band : classify w r = .clearingBand) {table : Vector Channel 24}
    (written : table = s.table.set r.channel { s.table[r.channel] with trip := .clear }) :
    s.evaluate r = (r,
      { s with table := table
               limit := { s.limit with line := lineLevel s.limit.mode s.limit.latch table }
               events := s.events.raise .tripCleared (BitVec.ofNat 16 r.channel) }) := by
  subst written
  simp only [State.evaluate, measured, window, trip, band]
  rfl

end

theorem lineLevel_eq (m : LineMode) (latch : Bool) (t : Vector Channel 24) :
    lineLevel m latch t = if m = .follow then t.toList.any (fun d => d.trip = .tripped) else latch := by
  cases m <;> rfl

/-- Settles O42: the row of the table is found by the record's class, which the two conditions give. -/
theorem evaluationFollowsTheTripTable : Obligations.EvaluationFollowsTheTripTable := by
  rintro s r w out band window - rfl rfl
  simp only [decide_eq_true_eq, decide_eq_false_iff_not, ← classify_eq_outside, ← classify_eq_clearingBand]
  refine ⟨fun skipped => State.evaluate_of_skipped skipped s, fun q none => State.evaluate_of_no_window none,
    fun measured trip outside => State.evaluate_trips measured window trip outside,
    fun measured trip within => State.evaluate_stays_clear measured window trip within,
    fun measured trip outside => State.evaluate_marks measured window trip outside,
    fun measured trip within above => State.evaluate_stays_tripped measured window trip ?_,
    fun measured trip clearing => ⟨_, rfl, ?_⟩⟩
  · cases e : classify w r with
    | outside => exact absurd e within
    | between => rfl
    | clearingBand => exact absurd e above
  · rw [State.evaluate_clears measured window trip clearing rfl, lineLevel_eq]

end Sys2Proof.Machine
end

section
namespace Sys2Proof.Machine

/-! PROOFS. The trip latch stays set under every command but CLEAR_LATCH, RESTART and reset: the sample loop can only
set it, and of the other moves only those three clear it. -/

/-- The trip latch is set (R148). -/
abbrev Latched (s : State) : Prop := s.limit.latch = true

/-- The sample loop reaches the latch only by an evaluation, which sets it or leaves it (R147). -/
theorem latched_keptByLoop : KeptByLoop Latched where
  moved _ _ _ _ _ _ _ h := h
  raised h := h
  evaluated {s} r h := by
    rcases (s.evaluate_cases r).2 with same | ⟨-, trips⟩ | ⟨-, clears⟩
    · rwa [same]
    · rw [trips]; rfl
    · rw [clears]; exact h
  remembered h := h
  relisted _ h := h
  appended _ _ h := h
  replaced _ h := h

namespace Latched
variable {s t : State}

/-! ## The requests -/

/-- A row whose request keeps the latch on the payloads that it takes keeps the latch. -/
theorem of_row {kind : Byte} {row : List Byte → Bool} {run : List Byte → State → Execution}
    (effect : whileLive s (State.serve kind row run) = .next t)
    (hrun : ∀ p u, row p = true → Latched u → Latched (run p u).2) (h : Latched s) : Latched t := by
  refine keeps_of_effect effect (fun _ => ?_) h
  rcases serve_cases kind row run s with same | ⟨f, rest, -, -, -, -, -, taken, executed⟩
  · rwa [same]
  · rw [executed]
    exact hrun f.payload (s.leaveInbound rest) taken h

/-- A check that refuses leaves it to the rest of the request whether the latch is kept. -/
theorem checked {p : Prop} [Decidable p] {o : ReplyOutcome} {e : Execution} (h : Latched s) (done : Latched e.2) :
    Latched (if p then refuse o s else e).2 := by
  split
  · exact h
  · exact done

variable (h : Latched s)
include h

theorem runChannelGet (p : List Byte) : Latched (runChannelGet p s).2 := by
  refine checked h ?_
  split <;> exact h

theorem runChannelSet (p : List Byte) : Latched (runChannelSet p s).2 := by
  refine checked h ?_
  split
  · exact h
  split
  · exact h
  · exact latched_keptByLoop.channelChanged _ h

theorem runChannelOff (p : List Byte) : Latched (runChannelOff p s).2 := by
  refine checked h ?_
  split
  · exact h
  · exact latched_keptByLoop.channelChanged _ h

theorem runListClear (p : List Byte) : Latched (runListClear p s).2 := by
  rcases runListClear_cases p s with e | ⟨-, l, e⟩ <;> rw [e] <;> exact h

theorem runListAppend (p : List Byte) : Latched (runListAppend p s).2 := by
  rcases runListAppend_cases p s with e | ⟨-, l, e⟩ <;> rw [e] <;> exact h

theorem runScanSet (p : List Byte) : Latched (runScanSet p s).2 := by
  rcases runScanSet_cases p s with e | ⟨-, z, e⟩ <;> rw [e] <;> exact h

theorem runPause (p : List Byte) : Latched (runPause p s).2 := by
  refine checked h ?_
  split
  next t paused =>
    unfold State.pauseScan at paused
    split at paused
    case h_1 => split at paused <;> cases paused <;> exact h
    all_goals cases paused
    all_goals exact h
  next => exact h

theorem resumePaused : Latched s.resumePaused := by
  unfold State.resumePaused
  split
  case h_4 => exact latched_keptByLoop.takeContinuation _ h
  all_goals exact h

theorem runResume (p : List Byte) : Latched (runResume p s).2 := by
  refine checked h ?_
  split
  next t resumed =>
    unfold State.resumeScan at resumed
    split at resumed <;> cases resumed
    · exact h
    · exact resumePaused h
    · exact h
  next => exact h

theorem runFetch (p : List Byte) : Latched (runFetch p s).2 :=
  checked h (checked h (checked h (latched_keptByLoop.drain _ h)))

theorem runStream (p : List Byte) : Latched (runStream p s).2 := by
  refine checked h (checked h ?_)
  split <;> exact h

theorem runAck (p : List Byte) : Latched (runAck p s).2 := by
  refine checked h (checked h ?_)
  split
  · exact latched_keptByLoop.drain _ h
  · split <;> exact h

/-- A TRIP_CONTROL frame that the row of another operation takes does not clear the latch (R151, R152). -/
theorem runTripControl {op : Nat} (other : op ≠ 2) {p : List Byte} (taken : isTripOperation op p = true) :
    Latched (runTripControl p s).2 := by
  by_cases one : p.length = 1
  · rw [Machine.runTripControl, if_neg (not_not_intro one)]
    split
    next => exact h
    next => exact h
    next clears => simp [isTripOperation, one, clears, other.symm] at taken
    next => exact h
  · rw [runTripControl_badLength one]
    exact h

/-! ## The link -/

theorem answerUnknownKind : Latched s.answerUnknownKind := by
  unfold State.answerUnknownKind
  split
  · split <;> exact h
  · exact h

theorem answerBadToken : Latched s.answerBadToken := by
  unfold State.answerBadToken
  split
  · split <;> exact h
  · exact h

theorem answerRepeat : Latched s.answerRepeat := by
  unfold State.answerRepeat
  split
  · split
    · split <;> exact h
    · exact h
  · exact h

theorem gapExpiry : Latched s.gapExpiry := by
  unfold State.gapExpiry
  split <;> exact h

theorem sendOldestReply : Latched s.sendOldestReply := by
  unfold State.sendOldestReply
  split <;> exact h

theorem sendEventReport : Latched s.sendEventReport := by
  unfold State.sendEventReport
  split <;> exact h

theorem sendResultReport : Latched s.sendResultReport := by
  unfold State.sendResultReport
  split
  case h_1 => split <;> exact h
  all_goals exact h

/-! ## The converter, the matrix and the rail -/

theorem endZero : Latched s.endZero := by
  unfold State.endZero
  split <;> exact h

theorem endIntegrate (input : MeanInput) : Latched (s.endIntegrate input) := by
  unfold State.endIntegrate
  split <;> exact h

theorem completeConversion (o : ConvOutcome) : Latched (s.completeConversion o) :=
  latched_keptByLoop.takeOutcome o h

theorem crossThreshold : Latched s.crossThreshold := by
  unfold State.crossThreshold
  split
  case h_1 => exact completeConversion (s := s.advance _) h _
  all_goals exact h

theorem reachLimit : Latched s.reachLimit := by
  unfold State.reachLimit
  split
  case h_1 => exact completeConversion (s := s.advance _) h _
  all_goals exact h

theorem settled : Latched s.settled := latched_keptByLoop.startConversion h

theorem endBreak : Latched s.endBreak := by
  unfold State.endBreak
  split
  case h_1 t _ _ =>
    dsimp only
    split
    · exact settled (s := (s.advance _).withMatrix (.settleOn t)) h
    · exact h
  all_goals exact h

theorem endSettle : Latched s.endSettle := by
  unfold State.endSettle
  split
  case h_1 => exact settled (s := s.advance _) h
  all_goals exact h

theorem railInside : Latched s.railInside := by
  unfold State.railInside
  split <;> exact h

theorem railTimeout : Latched s.railTimeout := by
  unfold State.railTimeout
  split
  case h_1 => exact latched_keptByLoop.railFault _ h
  all_goals exact h

theorem railDrop : Latched s.railDrop := by
  unfold State.railDrop
  split
  case h_1 => exact latched_keptByLoop.railFault _ h
  all_goals exact h

theorem holdEnds : Latched s.holdEnds := by
  unfold State.holdEnds
  split <;> exact h

/-! ## The pace, the clock and the stream's timer -/

theorem startPass : Latched s.startPass := by
  unfold State.startPass
  split
  · exact latched_keptByLoop.takeContinuation _ h
  · exact h

theorem latePass : Latched s.latePass := by
  unfold State.latePass
  split <;> exact h

theorem paceExpiry : Latched s.paceExpiry := by
  cases runs : s.seq.paceTimer with
  | none => rwa [State.paceExpiry_of_stopped runs]
  | some g =>
    have due : Latched (s.paceDue g) := h
    cases inside : s.withinPass with
    | true => rw [State.paceExpiry_within_pass runs inside]; exact latePass due
    | false => rwa [State.paceExpiry_between_passes runs inside]

theorem clockWrap : Latched s.clockWrap := by
  unfold State.clockWrap
  split <;> exact h

theorem retransmit : Latched s.retransmit := by
  unfold State.retransmit
  split
  · exact h
  · dsimp only
    split <;> exact h

/-! ## Every command -/

/-- Every command but CLEAR_LATCH, RESTART and the reset rows keeps the latch set (R148). -/
theorem exec {c : Instr} (effect : exec c s = .next t) (notClear : c ≠ .clearLatch) (notRestart : c ≠ .restart)
    (notReset : isResetRow c = false) : Latched t := by
  cases c with
  | clearLatch => exact absurd rfl notClear
  | restart => exact absurd rfl notRestart
  | resetNLow | resetNHigh | powerUp => cases notReset
  | identify | status => exact of_row effect (fun _ _ _ hu => checked hu hu) h
  | listRead | events | subscribe => exact of_row effect (fun _ _ _ hu => checked hu (checked hu hu)) h
  | start => exact of_row effect (fun _ _ _ hu => checked hu (checked hu (checked hu hu))) h
  | channelSet => exact of_row effect (fun p _ _ hu => runChannelSet hu p) h
  | channelGet => exact of_row effect (fun p _ _ hu => runChannelGet hu p) h
  | channelOff => exact of_row effect (fun p _ _ hu => runChannelOff hu p) h
  | listClear => exact of_row effect (fun p _ _ hu => runListClear hu p) h
  | listAppend => exact of_row effect (fun p _ _ hu => runListAppend hu p) h
  | scanSet => exact of_row effect (fun p _ _ hu => runScanSet hu p) h
  | stop => exact of_row effect (fun _ _ _ hu => checked hu (latched_keptByLoop.stopScan hu)) h
  | pause => exact of_row effect (fun p _ _ hu => runPause hu p) h
  | resume => exact of_row effect (fun p _ _ hu => runResume hu p) h
  | trigger => exact of_row effect (fun _ _ _ hu => checked hu (latched_keptByLoop.triggerLatch hu)) h
  | fetch => exact of_row effect (fun p _ _ hu => runFetch hu p) h
  | streamOn | streamOff => exact of_row effect (fun p _ _ hu => runStream hu p) h
  | ack => exact of_row effect (fun p _ _ hu => runAck hu p) h
  | modeFollow => exact of_row effect (fun _ _ taken hu => runTripControl hu (op := 0) (by decide) taken) h
  | modeLatched => exact of_row effect (fun _ _ taken hu => runTripControl hu (op := 1) (by decide) taken) h
  | unknownKind => exact keeps_of_effect effect answerUnknownKind h
  | badToken => exact keeps_of_effect effect answerBadToken h
  | repeatCacheMatch => exact keeps_of_effect effect answerRepeat h
  | goodCharacter b => exact keeps_of_effect (f := fun u => u.withLink (u.link.character b)) effect id h
  | damagedCharacter => exact keeps_of_effect (f := fun u => u.withLink u.link.damaged) effect id h
  | frameSent => exact keeps_of_effect (f := fun u => u.withLink { u.link with sending := none }) effect id h
  | gapTimerExpiry => exact keeps_of_effect effect gapExpiry h
  | sendReply => exact keeps_of_effect effect sendOldestReply h
  | eventReport => exact keeps_of_effect effect sendEventReport h
  | resultReport => exact keeps_of_effect effect sendResultReport h
  | trigEdge => exact keeps_of_effect effect latched_keptByLoop.triggerLatch h
  | zeroEnd => exact keeps_of_effect effect endZero h
  | integrateEnd input => exact keeps_of_effect effect (fun hs => endIntegrate hs input) h
  | deintegrateCrossing => exact keeps_of_effect effect crossThreshold h
  | deintegrateLimit => exact keeps_of_effect effect reachLimit h
  | breakEnd => exact keeps_of_effect effect endBreak h
  | settleEnd => exact keeps_of_effect effect endSettle h
  | railInsideWindow => exact keeps_of_effect effect railInside h
  | startTimeout => exact keeps_of_effect effect railTimeout h
  | drop => exact keeps_of_effect effect railDrop h
  | holdExpiry => exact keeps_of_effect effect holdEnds h
  | passStart => exact keeps_of_effect effect startPass h
  | paceTimerExpiry => exact keeps_of_effect effect paceExpiry h
  | scanClockWrap => exact keeps_of_effect effect clockWrap h
  | retransmitExpiry => exact keeps_of_effect effect retransmit h

end Latched

/-- Settles O7: a command that is none of the three would have left the latch set. -/
theorem onlyThreeThingsClearTheTripLatch : Obligations.OnlyThreeThingsClearTheTripLatch := by
  intro c s t effect set cleared
  by_contra none
  obtain ⟨notClear, other⟩ := not_or.1 none
  obtain ⟨notRestart, notReset⟩ := not_or.1 other
  have stays : Latched t := Latched.exec set effect notClear notRestart (Bool.eq_false_of_not_eq_true notReset)
  exact absurd stays (Bool.eq_false_iff.1 cleared)

end Sys2Proof.Machine
end

section
namespace Sys2Proof.Machine

/-! PROOFS. The event table and its reports: what a raise counts, EVENTS, SUBSCRIBE, and the arbiter of the transmitter
(R160 to R165, R184, R185). -/

/-! ## A raise (R160) -/

/-- A raise reaches no entry but its own (R160). -/
theorem EventTable.get_raise_of_ne (t : EventTable) {j k : EventKind} (h : j ≠ k) (d : Word16) :
    (t.raise k d).get j = t.get j := by
  rcases t.raise_cases k d with ⟨-, -, same⟩ | ⟨-, -, counted⟩ | ⟨-, started⟩
  · rw [same]
  · rw [counted, t.get_set_of_ne h]
  · rw [started, t.get_set_of_ne h]

/-- A raise of a kind that is not pending starts a pending period (R160). -/
theorem EventTable.get_raise_of_not_pending {t : EventTable} {k : EventKind} (h : (t.get k).pending = false)
    (d : Word16) : (t.raise k d).get k = { pending := true, count := 1, detail := d, due := t.subscribed k } := by
  rcases t.raise_cases k d with ⟨pending, -⟩ | ⟨pending, -⟩ | ⟨-, started⟩
  · simp [h] at pending
  · simp [h] at pending
  · rw [started, t.get_set_self]

/-- A raise of a pending kind counts, and leaves the detail of the first raise and the report-due mark (R160). -/
theorem EventTable.get_raise_of_count_lt {t : EventTable} {k : EventKind} (h : (t.get k).pending = true)
    (below : (t.get k).count < 255) (d : Word16) :
    (t.raise k d).get k = { t.get k with count := (t.get k).count + 1 } := by
  rcases t.raise_cases k d with ⟨-, full, -⟩ | ⟨-, -, counted⟩ | ⟨absent, -⟩
  · omega
  · rw [counted, t.get_set_self]
  · simp [h] at absent

/-- A raise of a pending kind at a count of 255 is absorbed (R160). -/
theorem EventTable.raise_of_count_ge {t : EventTable} {k : EventKind} (h : (t.get k).pending = true)
    (full : 255 ≤ (t.get k).count) (d : Word16) : t.raise k d = t := by
  rcases t.raise_cases k d with ⟨-, -, same⟩ | ⟨-, below, -⟩ | ⟨absent, -⟩
  · exact same
  · omega
  · simp [h] at absent

/-- Settles O39, by the three cases of a raise: a new pending period, one more counted, and a full count. -/
theorem raiseCountsIntoItsEntry : Obligations.RaiseCountsIntoItsEntry := by
  intro s k detail
  refine ⟨fun absent => ?_, fun pending below => ?_, fun pending full => ?_, fun j other => ?_, ?_, rfl⟩ <;>
    rw [State.raise_eq, State.withEvents_events]
  · exact EventTable.get_raise_of_not_pending absent detail
  · exact EventTable.get_raise_of_count_lt pending below detail
  · rw [EventTable.raise_of_count_ge pending full]
  · exact EventTable.get_raise_of_ne _ other detail
  · exact EventTable.raise_subscription _ _ _

/-! ## Event sets on the link (R192) -/

/-- The bits that a legal set leaves clear: bit 0 and bits 10 to 15. -/
theorem getLsbD_illegalBits : ∀ i < 16, (0xFC01 : Word16).getLsbD i = decide (i = 0 ∨ 10 ≤ i) := by decide

/-- A set is legal when it names no number but those of the nine kinds (R192). -/
theorem eventSetLegal_iff (m : Word16) : eventSetLegal m = true ↔ ∀ i, i = 0 ∨ 10 ≤ i → m.getLsbD i = false := by
  rw [eventSetLegal, beq_iff_eq]
  constructor
  · intro clear i outside
    by_cases small : i < 16
    · have bit : (m &&& 0xFC01).getLsbD i = false := by rw [clear]; exact BitVec.getLsbD_zero
      rwa [BitVec.getLsbD_and, getLsbD_illegalBits i small, decide_eq_true outside, Bool.and_true] at bit
    · exact BitVec.getLsbD_of_ge m i (not_lt.1 small)
  · intro named
    refine BitVec.eq_of_getLsbD_eq fun i small => ?_
    rw [BitVec.getLsbD_and, getLsbD_illegalBits i small]
    refine Eq.trans ?_ BitVec.getLsbD_zero.symm
    by_cases outside : i = 0 ∨ 10 ≤ i
    · rw [named i outside, Bool.false_and]
    · rw [decide_eq_false outside, Bool.and_false]

/-- A set that names anything but the nine kinds is not legal (R192). -/
theorem eventSetLegal_eq_false {m : Word16} (h : ∃ i, (i = 0 ∨ 10 ≤ i) ∧ m.getLsbD i = true) :
    eventSetLegal m = false := by
  obtain ⟨i, outside, named⟩ := h
  rw [Bool.eq_false_iff, ne_eq, eventSetLegal_iff]
  intro clear
  simp [clear i outside] at named

/-- Two bytes one after the other as one number, the high byte first (R192). -/
theorem toNat_append_bytes (high low : Byte) : (high ++ low : Word16).toNat = high.toNat * 256 + low.toNat := by
  rw [BitVec.toNat_append, ← Nat.shiftLeft_add_eq_or_of_lt low.isLt, Nat.shiftLeft_eq]

/-- A payload of two bytes carries the set of those bits (R192). -/
theorem eventSetField_pair (high low : Byte) : eventSetField [high, low] 0 = high ++ low := by
  apply BitVec.eq_of_toNat_eq
  rw [eventSetField, BitVec.toNat_ofNat, toNat_append_bytes]
  have number : field16 [high, low] 0 = high.toNat * 256 + low.toNat := rfl
  omega

/-- A set travels back as the two bytes it came in (R192). -/
theorem bytes16_append_bytes (high low : Byte) : bytes16 (high ++ low : Word16).toNat = [high, low] := by
  have below := low.isLt
  have upper : byteOf ((high.toNat * 256 + low.toNat) / 256) = high := by
    apply BitVec.eq_of_toNat_eq; rw [byteOf, BitVec.toNat_ofNat]; omega
  have lower : byteOf (high.toNat * 256 + low.toNat) = low := by
    apply BitVec.eq_of_toNat_eq; rw [byteOf, BitVec.toNat_ofNat]; omega
  rw [toNat_append_bytes, bytes16, upper, lower]

/-! ## EVENTS (R164, R165) -/

theorem runEvents_badLength {p : List Byte} (notNone : p.length ≠ 0) (notOne : p.length ≠ 2) (s : State) :
    runEvents p s = refuse .badLength s := if_pos ⟨notNone, notOne⟩

theorem runEvents_badValue {p : List Byte} (length : p.length = 0 ∨ p.length = 2)
    (illegal : eventSetLegal (clearSetOf p) = false) (s : State) : runEvents p s = refuse .badValue s := by
  rw [runEvents, if_neg (by omega), if_pos illegal]

theorem runEvents_done {p : List Byte} (length : p.length = 0 ∨ p.length = 2)
    (legal : eventSetLegal (clearSetOf p) = true) (s : State) :
    runEvents p s = replyDone s.events.bytes (s.withEvents (s.events.clearSet (clearSetOf p))) := by
  rw [runEvents, if_neg (by omega), if_neg (by simp [legal])]

/-- The two forms of an EVENTS payload, none and one set, and the set that each clears (R164). -/
theorem clearSetOf_eq {p : List Byte} {m : Word16}
    (h : (p = [] ∧ m = 0) ∨ (∃ high low : Byte, p = [high, low] ∧ m = high ++ low)) :
    (p.length = 0 ∨ p.length = 2) ∧ clearSetOf p = m := by
  rcases h with ⟨rfl, rfl⟩ | ⟨high, low, rfl, rfl⟩
  · exact ⟨.inl rfl, rfl⟩
  · exact ⟨.inr rfl, eventSetField_pair high low⟩

/-- Settles O40: the length is looked at first, then the set, and the reply's fields are the table before the clear. -/
theorem eventsReadsAndClears : Obligations.EventsReadsAndClears := by
  refine ⟨fun s token p rest notNone notOne h => row_refuses h rfl (runEvents_badLength notNone notOne),
    fun s token p rest m h form => ?_⟩
  obtain ⟨length, set⟩ := clearSetOf_eq form
  refine ⟨fun illegal => ?_, fun legal => ⟨s.events.clearSet m, fun k => ?_, rfl, ?_⟩⟩
  · exact row_refuses h rfl (runEvents_badValue length (set ▸ eventSetLegal_eq_false illegal))
  · exact EventTable.get_mapEntries _ _ k
  · have effect := runEvents_done length (set ▸ (eventSetLegal_iff m).2 legal) (s.leaveInbound rest)
    rw [set] at effect
    exact row_does (t := s.withEvents (s.events.clearSet m)) (row := anyPayload) h rfl effect

/-! ## SUBSCRIBE (R161) -/

/-- What SUBSCRIBE does to an entry: its report-due mark alone may change (R161). -/
theorem EventTable.get_subscribe (t : EventTable) (m : Word16) (k : EventKind) :
    (t.subscribe m).get k = { t.get k with
      due := if inEventSet m k then
          (if (t.get k).pending && !inEventSet t.subscription k then true else (t.get k).due)
        else false } := by
  cases k <;> rfl

theorem runSubscribe_badLength {p : List Byte} (h : p.length ≠ 2) (s : State) :
    runSubscribe p s = refuse .badLength s := if_pos h

/-- SUBSCRIBE with one set: refused where it is not legal, and taken as it is otherwise (R161). -/
theorem runSubscribe_pair (high low : Byte) (s : State) :
    runSubscribe [high, low] s = if eventSetLegal (high ++ low) = false then refuse .badValue s
      else replyDone [high, low] (s.withEvents (s.events.subscribe (high ++ low))) := by
  rw [runSubscribe, if_neg (by simp), eventSetField_pair, bytes16_append_bytes]

/-- Settles O41: the length is looked at first, then the set; the marks are gone through by the new set and the old. -/
theorem subscribeReplacesTheSet : Obligations.SubscribeReplacesTheSet := by
  refine ⟨fun s token p rest length h => row_refuses h rfl (runSubscribe_badLength length), ?_⟩
  rintro s token high low rest m rfl h
  refine ⟨fun illegal => ?_, fun legal => ⟨s.events.subscribe (high ++ low), fun k => ?_, rfl, ?_⟩⟩
  · exact row_refuses h rfl fun u => (runSubscribe_pair high low u).trans (if_pos (eventSetLegal_eq_false illegal))
  · rw [EventTable.get_subscribe]
    unfold inEventSet
    cases (high ++ low : Word16).getLsbD k.number
    · rfl
    · simp
  · refine row_does (t := s.withEvents (s.events.subscribe (high ++ low))) (row := anyPayload) h rfl
      ((runSubscribe_pair high low _).trans (if_neg ?_))
    simp [(eventSetLegal_iff _).2 legal]

/-! ## The arbiter (R162, R184, R185) -/

/-- The first report-due kind is the lowest-numbered one (R185). -/
theorem EventTable.firstDue_eq {t : EventTable} {k : EventKind} (due : (t.get k).due = true)
    (lowest : ∀ j : EventKind, j.number < k.number → (t.get j).due = false) : t.firstDue = some k := by
  obtain ⟨before, after, order⟩ := List.append_of_mem (mem_eventKinds k)
  have sorted := List.pairwise_map.1 eventKinds_sorted.pairwise
  rw [order, List.pairwise_append] at sorted
  obtain ⟨-, -, lower⟩ := sorted
  refine List.find?_eq_some_iff_append.2 ⟨due, before, after, order, fun j inFront => ?_⟩
  rw [lowest j (lower j inFront k List.mem_cons_self), Bool.not_false]

/-- While any kind is report-due the arbiter has one to choose (R185). -/
theorem EventTable.firstDue_ne_none {t : EventTable} {k : EventKind} (due : (t.get k).due = true) :
    t.firstDue ≠ none := by
  intro noneDue
  exact List.find?_eq_none.1 noneDue k (mem_eventKinds k) due

theorem State.sendOldestReply_of_waiting {s : State} {r : Frame} {rest : List Frame} (idle : s.link.sending = none)
    (waiting : s.link.replies = r :: rest) :
    s.sendOldestReply = s.withLink { s.link with replies := rest, sending := some r.wire } := by
  rw [State.sendOldestReply, idle, waiting]
  rfl

/-- A frame begun is sent to its end before a reply is chosen (R184). -/
theorem State.sendOldestReply_of_busy {s : State} (busy : s.link.sending ≠ none) : s.sendOldestReply = s := by
  unfold State.sendOldestReply
  split
  next idle _ => exact absurd idle busy
  all_goals rfl

theorem State.sendEventReport_of_due {s : State} {k : EventKind} (idle : s.link.sending = none)
    (replies : s.link.replies = []) (first : s.events.firstDue = some k) :
    s.sendEventReport = (s.withEvents (s.events.set k { s.events.get k with due := false })).transmit
      (eventReportFrame k (s.events.get k)) := by
  rw [State.sendEventReport, idle, replies, first]

/-- No EVENT report is composed while a frame is being sent or a reply waits (R184, R185). -/
theorem State.sendEventReport_of_held {s : State} (held : s.link.sending ≠ none ∨ s.link.replies ≠ []) :
    s.sendEventReport = s := by
  unfold State.sendEventReport
  split
  next idle replies _ =>
    rcases held with busy | waiting
    · exact absurd idle busy
    · exact absurd replies waiting
  all_goals rfl

/-- No RESULT report is composed while a frame is being sent, a reply waits, or a kind is report-due (R184, R185). -/
theorem State.sendResultReport_of_held {s : State}
    (held : s.link.sending ≠ none ∨ s.link.replies ≠ [] ∨ s.events.firstDue ≠ none) : s.sendResultReport = s := by
  unfold State.sendResultReport
  split
  next idle replies noneDue =>
    rcases held with busy | waiting | someDue
    · exact absurd idle busy
    · exact absurd replies waiting
    · exact absurd noneDue someDue
  all_goals rfl

/-- Settles O14: the arbiter's three choices in their order, and what holds each of them back. -/
theorem arbiterSendsRepliesThenEvents : Obligations.ArbiterSendsRepliesThenEvents := by
  intro s live
  have reply : exec .sendReply s = .next s.sendOldestReply := whileLive_of_live live _
  have event : exec .eventReport s = .next s.sendEventReport := whileLive_of_live live _
  have result : exec .resultReport s = .next s.sendResultReport := whileLive_of_live live _
  rw [reply, event, result]
  have sent : exec .frameSent s = .next (s.withLink { s.link with sending := none }) :=
    whileLive_of_live live fun t => t.withLink { t.link with sending := none }
  refine ⟨fun r rest idle waiting => ?_, ?_, sent, fun busy => ⟨?_, ?_, ?_⟩,
    fun waiting => ⟨?_, ?_⟩, fun k due => ?_⟩
  · rw [State.sendOldestReply_of_waiting idle waiting]
  · rintro k e idle replies rfl due lowest
    rw [State.sendEventReport_of_due idle replies (EventTable.firstDue_eq due lowest)]
    rfl
  · rw [State.sendOldestReply_of_busy busy]
  · rw [State.sendEventReport_of_held (.inl busy)]
  · rw [State.sendResultReport_of_held (.inl busy)]
  · rw [State.sendEventReport_of_held (.inr waiting)]
  · rw [State.sendResultReport_of_held (.inr (.inl waiting))]
  · rw [State.sendResultReport_of_held (.inr (.inr (EventTable.firstDue_ne_none due)))]

end Sys2Proof.Machine
end

section
namespace Sys2Proof.Machine

/-! PROOFS. Reset, which is taken at once and holds the part (R171, R190). -/

/-- While RESET_N is low nothing but the reset rows has an effect (R190). -/
theorem exec_of_reset {s : State} (low : s.pins.resetLow = true) {c : Instr} (other : isResetRow c = false) :
    exec c s = .next s := by
  cases c with
  | resetNLow | resetNHigh | powerUp => cases other
  | goodCharacter b => exact whileLive_of_reset low fun t => t.withLink (t.link.character b)
  | damagedCharacter => exact whileLive_of_reset low fun t => t.withLink t.link.damaged
  | frameSent => exact whileLive_of_reset low fun t => t.withLink { t.link with sending := none }
  | _ => exact whileLive_of_reset low _

/-- Settles O3: the three reset rows by the level of the line, and the hold of every other command. -/
theorem resetIsTakenAtOnceAndHoldsThePart : Obligations.ResetIsTakenAtOnceAndHoldsThePart := by
  refine ⟨fun s rate1 rate0 => ⟨rfl, fun low => ?_, fun high => ?_, fun high => ?_, fun low => ?_, rfl, rfl, rfl, rfl⟩,
    fun c s low other => exec_of_reset low other⟩
  · exact congrArg Host.Outcome.next (if_pos low)
  · exact congrArg Host.Outcome.next (if_neg (Bool.eq_false_iff.1 high))
  · show execPowerUp rate1 rate0 s = _
    rw [execPowerUp, high]
    rfl
  · show execPowerUp rate1 rate0 s = _
    rw [execPowerUp, low]
    rfl

end Sys2Proof.Machine
end

section
namespace Sys2Proof.Machine

/-! PROOFS. The receiver: a good character by receiver state, and the two framing failures (R175 to R177). -/

theorem exec_goodCharacter {s : State} (live : s.pins.resetLow = false) (b : Byte) :
    exec (.goodCharacter b) s = .next (s.withLink (s.link.character b)) :=
  whileLive_of_live live fun t => t.withLink (t.link.character b)

/-! ## A good character (R175) -/

section
variable {l : Link} {b : Byte} {len : Nat} {got : List Byte}

theorem Link.character_hunt_other (r : l.receiver = .hunt) (other : b ≠ 0xA5) : l.character b = l := by
  rw [Link.character, r]
  exact if_neg other

theorem Link.character_hunt_lead (r : l.receiver = .hunt) :
    l.character 0xA5 = { l with receiver := .length, gapTimer := some 0 } := by
  rw [Link.character, r]
  rfl

theorem Link.character_length_legal (r : l.receiver = .length) (legal : 2 ≤ b.toNat ∧ b.toNat ≤ 62) :
    l.character b = { l with receiver := .body b.toNat [], gapTimer := some 0 } := by
  rw [Link.character, r]
  exact if_pos legal

theorem Link.character_length_illegal (r : l.receiver = .length) (illegal : b.toNat < 2 ∨ 62 < b.toNat) :
    l.character b = l.framingFailure := by
  rw [Link.character, r]
  exact if_neg (by omega)

theorem Link.character_body_more (r : l.receiver = .body len got) (more : got.length + 1 < len) :
    l.character b = { l with receiver := .body len (got ++ [b]), gapTimer := some 0 } := by
  rw [Link.character, r]
  exact if_pos more

theorem Link.character_body_last (r : l.receiver = .body len got) (last : got.length + 1 = len) :
    l.character b = { l with receiver := .check len (got ++ [b]) [], gapTimer := some 0 } := by
  rw [Link.character, r]
  exact if_neg (by omega)

theorem Link.character_check_first (r : l.receiver = .check len got []) :
    l.character b = { l with receiver := .check len got [b], gapTimer := some 0 } := by
  rw [Link.character, r]

theorem Link.character_check_second {high : Byte} (r : l.receiver = .check len got [high]) :
    l.character b = l.checkFrame len got [high, b] := by
  rw [Link.character, r]
  rfl

/-! ## The frame with both CRC bytes (R175, R178) -/

variable {crcBytes : List Byte}

theorem Link.checkFrame_wrong (wrong : crcBytes ≠ bytes16 (crc (byteOf len :: got)).toNat) :
    l.checkFrame len got crcBytes
      = { l with receiver := .hunt, gapTimer := none, checkCount := min (l.checkCount + 1) 65535 } :=
  if_pos wrong

theorem Link.checkFrame_room (agrees : crcBytes = bytes16 (crc (byteOf len :: got)).toNat)
    (room : l.inbound.length < 4) : l.checkFrame len got crcBytes
      = { l with receiver := .hunt, gapTimer := none, inbound := l.inbound ++ [Frame.ofBody got] } :=
  (if_neg (not_not_intro agrees)).trans (if_pos room)

theorem Link.checkFrame_full (agrees : crcBytes = bytes16 (crc (byteOf len :: got)).toNat)
    (full : 4 ≤ l.inbound.length) : l.checkFrame len got crcBytes
      = { l with receiver := .hunt, gapTimer := none, overflowCount := min (l.overflowCount + 1) 65535 } :=
  (if_neg (not_not_intro agrees)).trans (if_neg (Nat.not_lt.2 full))

end

/-- Settles O8: the character by receiver state, and the last one of a frame by its CRC and the room for it. -/
theorem receiverTakesAGoodCharacter : Obligations.ReceiverTakesAGoodCharacter := by
  intro s b live
  rw [exec_goodCharacter live]
  refine ⟨fun r other => ?_, fun r lead => ?_, fun r low high => ?_, fun r illegal => ?_, fun len got r more => ?_,
    fun len got r last => ?_, fun len got r => ?_, fun len got high r => ?_⟩
  · rw [Link.character_hunt_other r other, State.withLink_self]
  · rw [lead, Link.character_hunt_lead r]
  · rw [Link.character_length_legal r ⟨low, high⟩]
  · rw [Link.character_length_illegal r illegal]
    rfl
  · rw [Link.character_body_more r more]
  · rw [Link.character_body_last r last]
  · rw [Link.character_check_first r]
  · rw [Link.character_check_second r]
    refine ⟨fun wrong => ?_, fun agrees room => ?_, fun agrees full => ?_⟩
    · rw [Link.checkFrame_wrong wrong]
    · rw [Link.checkFrame_room agrees room]
    · rw [Link.checkFrame_full agrees full]

/-! ## Framing failures (R176, R177) -/

theorem Link.damaged_of_hunting {l : Link} (hunts : l.receiver = .hunt) : l.damaged = l := by
  rw [Link.damaged, hunts]

theorem Link.damaged_of_receiving {l : Link} (receives : l.receiver ≠ .hunt) : l.damaged = l.framingFailure := by
  unfold Link.damaged
  split
  next hunts => exact absurd hunts receives
  all_goals rfl

/-- Settles O9: the damaged character by whether the receiver hunts, and the expiry by whether the gap timer runs. -/
theorem failedFrameIsDiscardedAndCounted : Obligations.FailedFrameIsDiscardedAndCounted := by
  refine ⟨fun s live => ?_, fun s live => ?_⟩
  · have damaged : exec .damagedCharacter s = .next (s.withLink s.link.damaged) :=
      whileLive_of_live live fun t => t.withLink t.link.damaged
    rw [damaged]
    refine ⟨fun hunts => ?_, fun receives => ?_⟩
    · rw [Link.damaged_of_hunting hunts, State.withLink_self]
    · rw [Link.damaged_of_receiving receives]
      rfl
  · have expiry : exec .gapTimerExpiry s = .next s.gapExpiry := whileLive_of_live live _
    rw [expiry]
    refine ⟨fun stopped => ?_, fun g runs => ?_⟩
    · rw [State.gapExpiry, stopped]
    · rw [State.gapExpiry, runs]
      rfl

end Sys2Proof.Machine
end

section
namespace Sys2Proof.Machine

/-! PROOFS. The CRC, the bytes of a frame on the wire, and their way through the receiver (R172, R173, R175). -/

/-! ## The CRC (R173) -/

theorem crc_concat (bytes : List Byte) (b : Byte) : crc (bytes ++ [b]) = crcByte (crc bytes) b := by
  rw [crc, List.foldl_append]
  rfl

/-- A byte in the high eight bits of the CRC register. -/
theorem setWidth_shiftLeft_eight (b : Byte) : b.setWidth 16 <<< 8 = b ++ (0x00 : Byte) := by
  apply BitVec.eq_of_toNat_eq
  have below := b.isLt
  rw [toNat_append_bytes, BitVec.toNat_shiftLeft, BitVec.toNat_setWidth, Nat.shiftLeft_eq]
  show b.toNat % 2 ^ 16 * 2 ^ 8 % 2 ^ 16 = b.toNat * 256 + 0
  omega

/-- One shift of the CRC register, by its highest bit. -/
theorem crcShift_eq (r : Word16) :
    crcShift r = if r.getLsbD 15 = true then (r <<< 1) ^^^ 0x1021 else r <<< 1 := by
  rw [crcShift, BitVec.msb_eq_getLsbD_last]

/-- The CRC of the nine digits (R173). -/
theorem crc_digits : crc [0x31, 0x32, 0x33, 0x34, 0x35, 0x36, 0x37, 0x38, 0x39] = 0x29B1 := by
  simp [crc, crcByte, crcShift_eq]

/-- A byte into the CRC register is eight shifts behind an exclusive-or into the high eight bits. -/
theorem crcByte_eq (r : Word16) (b : Byte) :
    crcByte r b = (fun q : Word16 => if q.getLsbD 15 = true then (q <<< 1) ^^^ 0x1021 else q <<< 1)^[8]
      (r ^^^ (b ++ (0x00 : Byte))) := by
  have shift : crcShift = fun q : Word16 => if q.getLsbD 15 = true then (q <<< 1) ^^^ 0x1021 else q <<< 1 :=
    funext crcShift_eq
  rw [← shift, ← setWidth_shiftLeft_eight]
  rfl

/-! ## The frame on the wire (R172) -/

/-- The two bytes of a word, high byte first (R192). -/
theorem bytes16_toNat (w : Word16) : bytes16 w.toNat = [w.extractLsb' 8 8, w.extractLsb' 0 8] := by
  rw [bytes16, ← Nat.shiftRight_eq_div_pow w.toNat 8]
  rfl

theorem Frame.wire_eq (f : Frame) : f.wire
    = 0xA5 :: byteOf f.body.length :: (f.body ++ bytes16 (crc (byteOf f.body.length :: f.body)).toNat) := rfl

/-! ## Characters one after another (R175) -/

/-- The link after good characters received one after another. -/
def Link.characters (bytes : List Byte) (l : Link) : Link := bytes.foldl (fun m b => m.character b) l

theorem Link.characters_cons (b : Byte) (bytes : List Byte) (l : Link) :
    l.characters (b :: bytes) = (l.character b).characters bytes := rfl

theorem Link.characters_append (first second : List Byte) (l : Link) :
    l.characters (first ++ second) = (l.characters first).characters second := List.foldl_append

/-- Characters reach the link alone (R175). -/
theorem takeCharacters_eq (bytes : List Byte) {s : State} (live : s.pins.resetLow = false) :
    takeCharacters bytes s = .next (s.withLink (s.link.characters bytes)) := by
  induction bytes generalizing s with
  | nil => rfl
  | cons b bytes ih =>
    rw [takeCharacters, exec_goodCharacter live]
    exact ih live

/-- The bytes of KIND, TOKEN and payload that complete LEN go into the frame under assembly (R175). -/
theorem Link.characters_body {len : Nat} (bytes : List Byte) {got : List Byte} {l : Link}
    (r : l.receiver = .body len got) (nonempty : bytes ≠ []) (complete : got.length + bytes.length = len) :
    l.characters bytes = { l with receiver := .check len (got ++ bytes) [], gapTimer := some 0 } := by
  induction bytes generalizing got l with
  | nil => exact absurd rfl nonempty
  | cons b bytes ih =>
    rw [List.length_cons] at complete
    rw [Link.characters_cons]
    cases bytes with
    | nil =>
      rw [Link.character_body_last r complete]
      rfl
    | cons c bytes =>
      have more : got.length + 1 < len := by rw [← complete, List.length_cons]; omega
      rw [Link.character_body_more r more, ih rfl (List.cons_ne_nil c bytes)]
      · rw [List.append_assoc]
        rfl
      · rw [List.length_append, List.length_singleton]
        omega

/-- The lead byte and a legal LEN to a receiver that hunts begin a frame (R175). -/
theorem Link.characters_header {l : Link} {len : Nat} (hunts : l.receiver = .hunt) (legal : 2 ≤ len ∧ len ≤ 62) :
    l.characters [0xA5, byteOf len] = { l with receiver := .body len [], gapTimer := some 0 } := by
  have number : (byteOf len).toNat = len := byteOf_toNat (by omega)
  rw [Link.characters_cons, Link.character_hunt_lead hunts, Link.characters_cons,
    Link.character_length_legal rfl (by omega), number]
  rfl

/-- The CRC that agrees with a complete frame ends it: with room it joins the inbound queue (R175). -/
theorem Link.characters_crc {l : Link} {len : Nat} {got : List Byte} (r : l.receiver = .check len got [])
    (room : l.inbound.length < 4) : l.characters (bytes16 (crc (byteOf len :: got)).toNat)
      = { l with receiver := .hunt, gapTimer := none, inbound := l.inbound ++ [Frame.ofBody got] } := by
  rw [bytes16, Link.characters_cons, Link.character_check_first r, Link.characters_cons,
    Link.character_check_second rfl]
  exact Link.checkFrame_room rfl room

/-- A frame's bytes to a receiver that hunts, with room in the inbound queue: the frame joins it (R175). -/
theorem Link.characters_wire {l : Link} {f : Frame} (fits : f.payload.length ≤ 60) (hunts : l.receiver = .hunt)
    (stopped : l.gapTimer = none) (room : l.inbound.length < 4) :
    l.characters f.wire = { l with inbound := l.inbound ++ [f] } := by
  have length : f.body.length = f.payload.length + 2 := rfl
  have parts : f.wire = [0xA5, byteOf f.body.length]
      ++ (f.body ++ bytes16 (crc (byteOf f.body.length :: f.body)).toNat) := rfl
  rw [parts, Link.characters_append, Link.characters_header hunts (by omega), Link.characters_append,
    Link.characters_body f.body rfl (List.cons_ne_nil _ _) (Nat.zero_add _), List.nil_append]
  have received := Link.characters_crc (l := { l with receiver := .check f.body.length f.body [], gapTimer := some 0 })
    rfl room
  refine received.trans ?_
  rw [← hunts, ← stopped]
  rfl

/-- Settles O10: the CRC byte by byte, the frame's bytes by their definition, and their reception through the receiver's
states. -/
theorem frameOnTheWireIsReceivedAsThatFrame : Obligations.FrameOnTheWireIsReceivedAsThatFrame := by
  refine ⟨⟨rfl, fun bytes b => ?_, crc_digits, fun f check hcheck => ?_⟩, fun s f fits live hunts stopped room => ?_⟩
  · rw [crc_concat, crcByte_eq]
  · have length : f.body.length = 2 + f.payload.length := Nat.add_comm f.payload.length 2
    rw [hcheck, ← bytes16_toNat, Frame.wire_eq, length]
    rfl
  · rw [takeCharacters_eq _ live, Link.characters_wire fits hunts stopped room]

end Sys2Proof.Machine
end

section
namespace Sys2Proof.Machine

/-! PROOFS. The laws of the link in every step, the frames answered without being executed, and IDENTIFY. -/

/-- Settles O56: each law is kept by the single moves of the commands, and so by every step. -/
theorem stepKeepsTheLinkLaws : Obligations.StepKeepsTheLinkLaws :=
  ⟨fun _ _ link cache effect =>
    ⟨linkLaw_keptByCommands.step effect link, cacheLaw_keptByCommands.step effect cache⟩,
    fun _ _ replies effect => replyLaw_keptByCommands.step effect replies⟩

/-! ## Frames answered without being executed (R179, R180, R182) -/

/-- The frame that the processor takes (R179). -/
theorem Link.takes_eq {l : Link} {f : Frame} {rest : List Frame} (inbound : l.inbound = f :: rest)
    (room : l.replies.length < 4) : l.takes = some (f, rest) := by
  rw [Link.takes, inbound]
  exact if_pos room

theorem Link.cached_eq {l : Link} {f reply : Frame} (cache : l.cache = some (f, reply)) : l.cached f = some reply := by
  rw [Link.cached, cache]
  exact if_pos rfl

/-- Settles O11: the three rows on the frame that is taken, each where its own condition holds. -/
theorem framesAnsweredWithoutExecution : Obligations.FramesAnsweredWithoutExecution := by
  intro s f rest live inbound room
  have takes := Link.takes_eq inbound room
  have unknown : exec .unknownKind s = .next s.answerUnknownKind := whileLive_of_live live _
  have token : exec .badToken s = .next s.answerBadToken := whileLive_of_live live _
  have again : exec .repeatCacheMatch s = .next s.answerRepeat := whileLive_of_live live _
  rw [unknown, token, again]
  refine ⟨fun noKind => ?_, fun isKind zero => ?_, fun reply isKind given cache => ?_⟩
  · rw [State.answerUnknownKind, takes]
    dsimp only
    rw [noKind]
    rfl
  · rw [State.answerBadToken, takes]
    exact congrArg Host.Outcome.next (if_pos ⟨isKind, zero⟩)
  · rw [State.answerRepeat, takes]
    dsimp only
    rw [Link.cached_eq cache]
    exact congrArg Host.Outcome.next (if_pos ⟨isKind, given⟩)

/-! ## IDENTIFY (R186) -/

/-- The fixed values, byte by byte (R186, R198). -/
theorem identityBytes_eq : identityBytes = [0x3A, 0x17, 0x0B, 0x24, 0x02, 24, 64, 128, 8, 9] := by decide

theorem runIdentify_badLength {p : List Byte} (h : p ≠ []) (s : State) : runIdentify p s = refuse .badLength s :=
  if_pos (mt List.length_eq_zero_iff.1 h)

/-- Settles O16: no payload is answered with the fixed values, and any other is refused. -/
theorem identifyAnswersTheFixedValues : Obligations.IdentifyAnswersTheFixedValues := by
  intro s token p rest h
  refine ⟨?_, fun payload => row_refuses h rfl (runIdentify_badLength payload)⟩
  rintro rfl
  rw [← identityBytes_eq]
  exact row_does (t := s) (row := anyPayload) h rfl rfl

end Sys2Proof.Machine
end

section
namespace Sys2Proof.Machine

/-! PROOFS. What a request may do with the link and how it answers: one fact for each request, and then for every row. -/

/-- Two links with the same queues, repeat cache and transmitter (R178, R182, R184). -/
def SameQueues (l m : Link) : Prop :=
  m.inbound = l.inbound ∧ m.replies = l.replies ∧ m.cache = l.cache ∧ m.sending = l.sending

theorem SameQueues.refl (l : Link) : SameQueues l l := ⟨rfl, rfl, rfl, rfl⟩

theorem SameQueues.of_eq {l m : Link} (same : m = l) : SameQueues l m := by
  rw [same]
  exact .refl l

/-- The execution of a request leaves the link's queues alone, and answers DONE first or refuses, which changes nothing
(R181, R191). -/
structure Execution.Orderly (s : State) (e : Execution) : Prop where
  queues : SameQueues s.link e.2.link
  outcome : e.1.head? = some 0x00 ∨ ∃ o, e = refuse o s

namespace Execution.Orderly
variable {s : State}

theorem refused (o : ReplyOutcome) : Execution.Orderly s (refuse o s) := ⟨.refl _, .inr ⟨o, rfl⟩⟩

/-- A request whose checks are passed or refused. -/
theorem checked {p : Prop} [Decidable p] {o : ReplyOutcome} {e : Execution}
    (passed : ¬p → Execution.Orderly s e) : Execution.Orderly s (if p then refuse o s else e) := by
  split
  · exact refused o
  next ok => exact passed ok

theorem done {t : State} {fields : List Byte} (queues : SameQueues s.link t.link) :
    Execution.Orderly s (replyDone fields t) := ⟨queues, .inl rfl⟩

end Execution.Orderly

open Execution (Orderly)

/-! ## The requests -/

section
variable (p : List Byte) (s : State)

theorem runIdentify_orderly : Orderly s (runIdentify p s) := .checked fun _ => .done (.refl _)

theorem runStatus_orderly : Orderly s (runStatus p s) := .checked fun _ => .done (.refl _)

/-- RESTART clears the counters of the link, not its queues (R188). -/
theorem runRestart_orderly : Orderly s (runRestart p s) := .checked fun _ => .done <|
  show SameQueues s.link s.stopScan.link from .of_eq s.stopScan_around.link

theorem runChannelSet_orderly : Orderly s (runChannelSet p s) := by
  refine .checked fun _ => ?_
  split
  · exact .refused _
  split
  · exact .refused _
  · exact .done (.of_eq (State.channelChanged_around _ _).link)

theorem runChannelGet_orderly : Orderly s (runChannelGet p s) := by
  refine .checked fun _ => ?_
  split
  · exact .refused _
  · exact .done (.refl _)

theorem runChannelOff_orderly : Orderly s (runChannelOff p s) := by
  refine .checked fun _ => ?_
  split
  · exact .refused _
  · exact .done (.of_eq (State.channelChanged_around _ _).link)

theorem runListClear_orderly : Orderly s (runListClear p s) :=
  .checked fun _ => .checked fun _ => .done (.refl _)

theorem runListAppend_orderly : Orderly s (runListAppend p s) := by
  refine .checked fun _ => .checked fun _ => ?_
  split
  · exact .refused _
  · exact .checked fun _ => .checked fun _ => .done (.refl _)

theorem runListRead_orderly : Orderly s (runListRead p s) :=
  .checked fun _ => .checked fun _ => .done (.refl _)

theorem runScanSet_orderly : Orderly s (runScanSet p s) := by
  refine .checked fun _ => ?_
  split
  · exact .refused _
  · exact .checked fun _ => .done (.refl _)

theorem runStart_orderly : Orderly s (runStart p s) :=
  .checked fun _ => .checked fun _ => .checked fun _ => .done (.refl _)

theorem runStop_orderly : Orderly s (runStop p s) := .checked fun _ => .done (.of_eq s.stopScan_around.link)

theorem State.pauseScan_link {s t : State} (paused : s.pauseScan = some t) : t.link = s.link := by
  unfold State.pauseScan at paused
  split at paused
  case h_1 => split at paused <;> cases paused <;> rfl
  case h_6 | h_7 => cases paused
  all_goals cases paused; rfl

theorem runPause_orderly : Orderly s (runPause p s) := by
  refine .checked fun _ => ?_
  split
  next t paused => exact .done (.of_eq (State.pauseScan_link paused))
  next => exact .refused _

theorem State.resumePaused_link : s.resumePaused.link = s.link := by
  unfold State.resumePaused
  split
  case h_4 => exact State.takeContinuation_link _ _
  all_goals rfl

theorem State.resumeScan_link {s t : State} (resumed : s.resumeScan = some t) : t.link = s.link := by
  unfold State.resumeScan at resumed
  split at resumed <;> cases resumed
  · rfl
  · exact s.resumePaused_link
  · rfl

theorem runResume_orderly : Orderly s (runResume p s) := by
  refine .checked fun _ => ?_
  split
  next t resumed => exact .done (.of_eq (State.resumeScan_link resumed))
  next => exact .refused _

theorem runTrigger_orderly : Orderly s (runTrigger p s) :=
  .checked fun _ => .done (.of_eq s.triggerLatch_around.link)

theorem runFetch_orderly : Orderly s (runFetch p s) :=
  .checked fun _ => .checked fun _ => .checked fun _ => .done (.of_eq (State.drain_around _ _).link)

theorem runStream_orderly : Orderly s (runStream p s) := by
  refine .checked fun _ => .checked fun _ => ?_
  split <;> exact .done (.refl _)

theorem runAck_orderly : Orderly s (runAck p s) := by
  refine .checked fun _ => .checked fun _ => ?_
  split
  · exact .done (.of_eq (State.drain_around _ _).link)
  · split
    · exact .done (.refl _)
    · exact .refused _

theorem runEvents_orderly : Orderly s (runEvents p s) := .checked fun _ => .checked fun _ => .done (.refl _)

theorem runSubscribe_orderly : Orderly s (runSubscribe p s) := .checked fun _ => .checked fun _ => .done (.refl _)

theorem runTripControl_orderly : Orderly s (runTripControl p s) := by
  refine .checked fun _ => ?_
  split
  case h_4 => exact .refused _
  all_goals exact .done (.refl _)

end

/-! ## Every request row -/

/-- A request row serves frames of a request kind, by a request that leaves the link's queues alone (R179, R193). -/
theorem exec_requestRow {c : Instr} (isRow : c ∈ requestRows) :
    ∃ (kind : Byte) (row : List Byte → Bool) (run : List Byte → State → Execution),
      isRequestKind kind = true ∧ (∀ p u, Orderly u (run p u))
        ∧ ∀ s, exec c s = whileLive s (State.serve kind row run) := by
  cases c with
  | identify => exact ⟨_, _, _, rfl, runIdentify_orderly, fun _ => rfl⟩
  | status => exact ⟨_, _, _, rfl, runStatus_orderly, fun _ => rfl⟩
  | restart => exact ⟨_, _, _, rfl, runRestart_orderly, fun _ => rfl⟩
  | channelSet => exact ⟨_, _, _, rfl, runChannelSet_orderly, fun _ => rfl⟩
  | channelGet => exact ⟨_, _, _, rfl, runChannelGet_orderly, fun _ => rfl⟩
  | channelOff => exact ⟨_, _, _, rfl, runChannelOff_orderly, fun _ => rfl⟩
  | listClear => exact ⟨_, _, _, rfl, runListClear_orderly, fun _ => rfl⟩
  | listAppend => exact ⟨_, _, _, rfl, runListAppend_orderly, fun _ => rfl⟩
  | listRead => exact ⟨_, _, _, rfl, runListRead_orderly, fun _ => rfl⟩
  | scanSet => exact ⟨_, _, _, rfl, runScanSet_orderly, fun _ => rfl⟩
  | start => exact ⟨_, _, _, rfl, runStart_orderly, fun _ => rfl⟩
  | stop => exact ⟨_, _, _, rfl, runStop_orderly, fun _ => rfl⟩
  | pause => exact ⟨_, _, _, rfl, runPause_orderly, fun _ => rfl⟩
  | resume => exact ⟨_, _, _, rfl, runResume_orderly, fun _ => rfl⟩
  | trigger => exact ⟨_, _, _, rfl, runTrigger_orderly, fun _ => rfl⟩
  | fetch => exact ⟨_, _, _, rfl, runFetch_orderly, fun _ => rfl⟩
  | streamOn | streamOff => exact ⟨_, _, _, rfl, runStream_orderly, fun _ => rfl⟩
  | ack => exact ⟨_, _, _, rfl, runAck_orderly, fun _ => rfl⟩
  | events => exact ⟨_, _, _, rfl, runEvents_orderly, fun _ => rfl⟩
  | subscribe => exact ⟨_, _, _, rfl, runSubscribe_orderly, fun _ => rfl⟩
  | modeFollow | modeLatched | clearLatch => exact ⟨_, _, _, rfl, runTripControl_orderly, fun _ => rfl⟩
  | _ => simp [requestRows] at isRow

/-- Everything a request row can do: nothing, or the oldest inbound frame is taken, executed and answered (R179). -/
theorem exec_requestRow_cases {c : Instr} {s t : State} (isRow : c ∈ requestRows) (effect : exec c s = .next t) :
    t = s ∨ ∃ f rest e, s.link.inbound = f :: rest ∧ s.link.replies.length < 4 ∧ isRequestKind f.kind = true
      ∧ f.token ≠ 0 ∧ s.link.cached f = none ∧ Orderly (s.leaveInbound rest) e ∧ t = State.finishRequest f e := by
  obtain ⟨kind, row, run, isKind, orderly, same⟩ := exec_requestRow isRow
  rw [same] at effect
  rcases whileLive_cases s (State.serve kind row run) with ⟨-, held⟩ | ⟨-, live⟩
  · exact .inl (Host.Outcome.next.inj (effect.symm.trans held))
  · obtain rfl : t = s.serve kind row run := Host.Outcome.next.inj (effect.symm.trans live)
    rcases serve_cases kind row run s with stays | ⟨f, rest, inbound, room, rfl, token, fresh, -, executed⟩
    · exact .inl stays
    · exact .inr ⟨f, rest, _, inbound, room, isKind, token, fresh, orderly _ _, executed⟩

/-- Settles O13: the row's request answers DONE, or it is refused and leaves the state answered and otherwise alone. -/
theorem refusedRequestChangesNoBlock : Obligations.RefusedRequestChangesNoBlock := by
  intro c s t f rest isRow executes effect changed
  obtain ⟨-, taken, -⟩ := executes
  rcases exec_requestRow_cases isRow effect with stays | ⟨g, more, e, inbound, -, -, -, -, orderly, rfl⟩
  · exact absurd stays changed
  · obtain ⟨rfl, rfl⟩ := List.cons.inj (inbound.symm.trans taken)
    refine ⟨e.1, rfl, orderly.outcome.imp id ?_⟩
    rintro ⟨o, rfl⟩
    exact ⟨rfl, finish_refuse s g more o⟩

end Sys2Proof.Machine
end

section
namespace Sys2Proof.Machine

/-! PROOFS. The part's own events, which no request and no frame brings: they leave the link's queues, a stopped stream and
the subscription set alone, and make report-due only what is subscribed. -/

/-- What the part's own events keep of a state: the link's queues, the stream while its timer stands still, the
subscription set, and every kind that is not subscribed stays out of the report-due ones (R134, R160, R178). -/
def Aside (s t : State) : Prop :=
  SameQueues s.link t.link ∧ (s.stream.timer = none → t.stream = s.stream)
    ∧ t.events.subscription = s.events.subscription
    ∧ ∀ k, (t.events.get k).due = true → (s.events.get k).due = true ∨ s.events.subscribed k = true

theorem Aside.refl (s : State) : Aside s s := ⟨.refl _, fun _ => rfl, rfl, fun _ => .inl⟩

/-- Time keeps a stopped timer stopped. -/
theorem Aside.advance {s t : State} (n : Nat) (h : Aside s t) : Aside s (t.advance n) := by
  obtain ⟨queues, stream, events⟩ := h
  refine ⟨queues, fun stopped => ?_, events⟩
  rw [State.advance_stream, stream stopped, Stream.advance, stopped, Option.map_none, ← stopped]

/-- A raise makes its kind report-due only where it is subscribed (R160). -/
theorem Aside.raise {s t : State} (k : EventKind) (d : Word16) (h : Aside s t) : Aside s (t.raise k d) := by
  obtain ⟨queues, stream, set, due⟩ := h
  refine ⟨queues, stream, (EventTable.raise_subscription _ _ _).trans set, fun j => ?_⟩
  rw [State.raise_eq, State.withEvents_events]
  by_cases same : j = k
  · subst same
    rcases t.events.raise_cases j d with ⟨-, -, e⟩ | ⟨-, -, e⟩ | ⟨-, e⟩ <;> rw [e]
    · exact due j
    · rw [EventTable.get_set_self]
      exact due j
    · rw [EventTable.get_set_self, EventTable.subscribed, set]
      exact .inr
  · rcases t.events.raise_cases k d with ⟨-, -, e⟩ | ⟨-, -, e⟩ | ⟨-, e⟩ <;> rw [e]
    · exact due j
    · rw [EventTable.get_set_of_ne _ same]
      exact due j
    · rw [EventTable.get_set_of_ne _ same]
      exact due j

theorem Aside.evaluate {s t : State} (r : Record) (h : Aside s t) : Aside s (t.evaluate r).2 := by
  rcases (t.evaluate_cases r).2 with e | ⟨-, e⟩ | ⟨-, e⟩ <;> rw [e]
  · exact h
  · exact Aside.raise _ _ h
  · exact Aside.raise _ _ h

theorem aside_keptByLoop (s : State) : KeptByLoop (Aside s) where
  moved _ _ _ _ _ _ _ h := h
  raised := Aside.raise _ _
  evaluated := Aside.evaluate
  remembered h := h
  relisted _ h := h
  appended _ _ h := h
  replaced _ h := h

/-! ## The receiver's failures (R176, R177) -/

theorem State.damagedCharacter_aside (s : State) : Aside s (s.withLink s.link.damaged) := by
  unfold Link.damaged
  split <;> exact Aside.refl s

theorem State.gapExpiry_aside (s : State) : Aside s s.gapExpiry := by
  unfold State.gapExpiry
  split
  · exact (Aside.refl s).advance _
  · exact .refl s

/-! ## The converter, the matrix and the rail -/

theorem State.endZero_aside (s : State) : Aside s s.endZero := by
  unfold State.endZero
  split
  · exact (Aside.refl s).advance _
  · exact .refl s

theorem State.endIntegrate_aside (input : MeanInput) (s : State) : Aside s (s.endIntegrate input) := by
  unfold State.endIntegrate
  split
  · exact (Aside.refl s).advance _
  · exact .refl s

theorem State.completeConversion_aside (o : ConvOutcome) (n : Nat) (s : State) :
    Aside s ((s.advance n).completeConversion o) :=
  (aside_keptByLoop s).takeOutcome (s := (s.advance n).abortConversion) o ((Aside.refl s).advance n)

theorem State.crossThreshold_aside (s : State) : Aside s s.crossThreshold := by
  unfold State.crossThreshold
  split
  case h_1 => exact s.completeConversion_aside _ _
  all_goals exact .refl s

theorem State.reachLimit_aside (s : State) : Aside s s.reachLimit := by
  unfold State.reachLimit
  split
  case h_1 => exact s.completeConversion_aside _ _
  all_goals exact .refl s

theorem Aside.settled {s t : State} (h : Aside s t) : Aside s t.settled :=
  (aside_keptByLoop s).startConversion (s := t.withMatrix { t.matrix with phase := .connected, timer := 0 }) h

theorem State.endBreak_aside (s : State) : Aside s s.endBreak := by
  unfold State.endBreak
  split
  case h_1 t _ _ =>
    have settles : Aside s ((s.advance (Config.breakTicks - s.matrix.timer)).withMatrix (.settleOn t)) :=
      (Aside.refl s).advance _
    dsimp only
    split
    · exact settles.settled
    · exact settles
  all_goals exact .refl s

theorem State.endSettle_aside (s : State) : Aside s s.endSettle := by
  unfold State.endSettle
  split
  case h_1 => exact ((Aside.refl s).advance _).settled
  all_goals exact .refl s

theorem State.railInside_aside (s : State) : Aside s s.railInside := by
  unfold State.railInside
  split <;> exact Aside.refl s

theorem State.railTimeout_aside (s : State) : Aside s s.railTimeout := by
  unfold State.railTimeout
  split
  case h_1 => exact (aside_keptByLoop s).railFault _ ((Aside.refl s).advance _)
  all_goals exact .refl s

theorem State.railDrop_aside (s : State) : Aside s s.railDrop := by
  unfold State.railDrop
  split
  case h_1 => exact (aside_keptByLoop s).railFault _ (.refl s)
  all_goals exact .refl s

theorem State.holdEnds_aside (s : State) : Aside s s.holdEnds := by
  unfold State.holdEnds
  split
  case h_1 => exact (Aside.refl s).advance _
  all_goals exact .refl s

/-! ## The pace, the clock and the stream's timer -/

theorem State.startPass_aside (s : State) : Aside s s.startPass := by
  unfold State.startPass
  split
  · exact (aside_keptByLoop s).takeContinuation _ (Aside.refl s)
  · exact .refl s

theorem Aside.latePass {s t : State} (h : Aside s t) : Aside s t.latePass := by
  unfold State.latePass
  split
  · exact h
  · exact h.raise _ _

theorem State.paceExpiry_aside (s : State) : Aside s s.paceExpiry := by
  cases runs : s.seq.paceTimer with
  | none => rw [State.paceExpiry_of_stopped runs]; exact .refl s
  | some g =>
    have due : Aside s (s.paceDue g) := (Aside.refl s).advance _
    cases inside : s.withinPass with
    | true => rw [State.paceExpiry_within_pass runs inside]; exact due.latePass
    | false => rwa [State.paceExpiry_between_passes runs inside]

theorem State.clockWrap_aside (s : State) : Aside s s.clockWrap := by
  unfold State.clockWrap
  split
  · exact .refl s
  all_goals exact (Aside.refl s).advance _

/-- A stopped retransmit timer does not expire (R134). -/
theorem State.retransmit_aside (s : State) : Aside s s.retransmit := by
  unfold State.retransmit
  split
  · exact .refl s
  next g runs =>
    have expires (x : Stream) : Aside s ((s.advance (Config.retransmitTicks - g)).withStream x) :=
      ⟨.refl _, fun stopped => by simp [stopped] at runs, rfl, fun _ => .inl⟩
    dsimp only
    split
    · exact (expires _).raise _ _
    · exact expires _

/-! ## All of them -/

/-- The events of the part itself and of its lines: no request, no good character, no transmission and no reset. -/
def isOwnEvent : Instr → Bool
  | .damagedCharacter | .gapTimerExpiry | .trigEdge | .zeroEnd | .integrateEnd _ | .deintegrateCrossing
  | .deintegrateLimit | .breakEnd | .settleEnd | .railInsideWindow | .startTimeout | .drop | .holdExpiry | .passStart
  | .paceTimerExpiry | .scanClockWrap | .retransmitExpiry => true
  | _ => false

/-- What the part's own events keep. -/
theorem exec_aside {c : Instr} {s t : State} (own : isOwnEvent c = true) (effect : exec c s = .next t) : Aside s t := by
  have keeps {f : State → State} (effect : whileLive s f = .next t) (h : Aside s (f s)) : Aside s t :=
    keeps_of_effect (P := Aside s) effect (fun _ => h) (.refl s)
  cases c with
  | damagedCharacter => exact keeps (f := fun u => u.withLink u.link.damaged) effect s.damagedCharacter_aside
  | gapTimerExpiry => exact keeps effect s.gapExpiry_aside
  | trigEdge => exact keeps effect ((aside_keptByLoop s).triggerLatch (.refl s))
  | zeroEnd => exact keeps effect s.endZero_aside
  | integrateEnd input => exact keeps effect (s.endIntegrate_aside input)
  | deintegrateCrossing => exact keeps effect s.crossThreshold_aside
  | deintegrateLimit => exact keeps effect s.reachLimit_aside
  | breakEnd => exact keeps effect s.endBreak_aside
  | settleEnd => exact keeps effect s.endSettle_aside
  | railInsideWindow => exact keeps effect s.railInside_aside
  | startTimeout => exact keeps effect s.railTimeout_aside
  | drop => exact keeps effect s.railDrop_aside
  | holdExpiry => exact keeps effect s.holdEnds_aside
  | passStart => exact keeps effect s.startPass_aside
  | paceTimerExpiry => exact keeps effect s.paceExpiry_aside
  | scanClockWrap => exact keeps effect s.clockWrap_aside
  | retransmitExpiry => exact keeps effect s.retransmit_aside
  | _ => cases own

/-- The rows of the link besides the requests: the frames answered without execution, the good characters and the
transmitter's turns. -/
def isLinkRow : Instr → Bool
  | .unknownKind | .badToken | .repeatCacheMatch | .goodCharacter _ | .sendReply | .eventReport | .resultReport
  | .frameSent => true
  | _ => false

/-- A command is a request row, an event of the part's own, a reset row, or one of the other rows of the link. -/
theorem instr_cases (c : Instr) :
    c ∈ requestRows ∨ isOwnEvent c = true ∨ isResetRow c = true ∨ isLinkRow c = true := by
  cases c <;> simp [requestRows, isOwnEvent, isResetRow, isLinkRow]

end Sys2Proof.Machine
end

section
namespace Sys2Proof.Machine

/-! PROOFS. Frames and their replies: every frame taken gets one reply, and replies leave only to the transmitter (R178 to
R184). -/

/-- No frame is taken; the replies stand, or the oldest goes to the transmitter (R184). -/
def RepliesStandOrLeave (s t : State) : Prop :=
  t.link.inbound = s.link.inbound ∧ (t.link.replies = s.link.replies
    ∨ ∃ r, s.link.replies = r :: t.link.replies ∧ s.link.sending = none ∧ t.link.sending = some r.wire)

/-- The reply to a frame, and the repeat cache then, by the frame's kind, its token and the cache (R180 to R182). -/
def ProperReply (s t : State) (f reply : Frame) : Prop :=
  (isRequestKind f.kind = false →
      reply = { kind := 0xFE, token := f.token, payload := [0x09, f.kind] } ∧ t.link.cache = s.link.cache)
    ∧ (isRequestKind f.kind = true → f.token = 0 →
      reply = { kind := f.kind + 0x80, token := 0, payload := [0x0A] } ∧ t.link.cache = s.link.cache)
    ∧ (isRequestKind f.kind = true → f.token ≠ 0 →
      (t.link.cache = s.link.cache ∧ s.link.cache = some (f, reply))
      ∨ (s.link.cached f = none ∧ t.link.cache = some (f, reply) ∧ reply.kind = f.kind + 0x80
          ∧ reply.token = f.token))

/-- The oldest inbound frame is taken, with room for its reply, which joins the reply queue (R179). -/
def FrameAnswered (s t : State) : Prop :=
  s.link.replies.length < 4 ∧ t.link.sending = s.link.sending
    ∧ ∃ f reply, s.link.inbound = f :: t.link.inbound ∧ t.link.replies = s.link.replies ++ [reply]
      ∧ ProperReply s t f reply

theorem SameQueues.repliesStand {s t : State} (same : SameQueues s.link t.link) : RepliesStandOrLeave s t := by
  obtain ⟨inbound, replies, -, -⟩ := same
  exact ⟨inbound, .inl replies⟩

theorem RepliesStandOrLeave.refl (s : State) : RepliesStandOrLeave s s := ⟨rfl, .inl rfl⟩

/-- A request row takes no frame, or executes and caches the one it takes (R181, R182). -/
theorem exec_requestRow_answers {c : Instr} {s t : State} (isRow : c ∈ requestRows) (effect : exec c s = .next t) :
    RepliesStandOrLeave s t ∨ FrameAnswered s t := by
  rcases exec_requestRow_cases isRow effect with
    rfl | ⟨f, rest, e, inbound, room, isKind, token, fresh, orderly, rfl⟩
  · exact .inl (.refl t)
  · obtain ⟨left, replies, -, sending⟩ := orderly.queues
    refine .inr ⟨room, sending, f, { kind := replyKind f.kind, token := f.token, payload := e.1 }, ?_, ?_, ?_, ?_, ?_⟩
    · exact inbound.trans (congrArg (f :: ·) left.symm)
    · exact congrArg (· ++ _) replies
    · exact fun noKind => absurd (isKind.symm.trans noKind) (by decide)
    · exact fun _ zero => absurd zero token
    · exact fun _ _ => .inr ⟨fresh, rfl, rfl, rfl⟩

/-! ## Frames answered without being executed (R180, R182) -/

theorem Link.takes_cases {l : Link} {f : Frame} {rest : List Frame} (takes : l.takes = some (f, rest)) :
    l.inbound = f :: rest ∧ l.replies.length < 4 := by
  unfold Link.takes at takes
  split at takes
  next g more inbound =>
    split at takes <;> cases takes
    next room => exact ⟨inbound, room⟩
  next => cases takes

theorem FrameAnswered.of_answer {s : State} {f reply : Frame} {rest : List Frame} (takes : s.link.takes = some (f, rest))
    (proper : ProperReply s (s.answer rest reply) f reply) : FrameAnswered s (s.answer rest reply) := by
  obtain ⟨inbound, room⟩ := Link.takes_cases takes
  exact ⟨room, rfl, f, reply, inbound, rfl, proper⟩

theorem State.answerUnknownKind_answers (s : State) :
    RepliesStandOrLeave s s.answerUnknownKind ∨ FrameAnswered s s.answerUnknownKind := by
  unfold State.answerUnknownKind
  split
  next f rest takes =>
    split
    next => exact .inl (.refl s)
    next noKind =>
      refine .inr (.of_answer takes ⟨fun _ => ⟨rfl, rfl⟩, ?_, ?_⟩)
      · exact fun isKind => absurd isKind noKind
      · exact fun isKind => absurd isKind noKind
  next => exact .inl (.refl s)

theorem State.answerBadToken_answers (s : State) :
    RepliesStandOrLeave s s.answerBadToken ∨ FrameAnswered s s.answerBadToken := by
  unfold State.answerBadToken
  split
  next f rest takes =>
    split
    next zero =>
      obtain ⟨isKind, zero⟩ := zero
      refine .inr (.of_answer takes ⟨?_, fun _ _ => ⟨rfl, rfl⟩, ?_⟩)
      · exact fun noKind => absurd (isKind.symm.trans noKind) (by decide)
      · exact fun _ token => absurd zero token
    next => exact .inl (.refl s)
  next => exact .inl (.refl s)

theorem State.answerRepeat_answers (s : State) :
    RepliesStandOrLeave s s.answerRepeat ∨ FrameAnswered s s.answerRepeat := by
  unfold State.answerRepeat
  split
  next f rest takes =>
    split
    next reply cached =>
      split
      next request =>
        obtain ⟨isKind, token⟩ := request
        refine .inr (.of_answer takes ⟨?_, ?_, fun _ _ => .inl ⟨rfl, Link.mem_cache_of_cached cached⟩⟩)
        · exact fun noKind => absurd (isKind.symm.trans noKind) (by decide)
        · exact fun _ zero => absurd zero token
      next => exact .inl (.refl s)
    next => exact .inl (.refl s)
  next => exact .inl (.refl s)

/-! ## The transmitter (R184, R185) -/

theorem State.sendOldestReply_repliesLeave (s : State) : RepliesStandOrLeave s s.sendOldestReply := by
  unfold State.sendOldestReply
  split
  next r rest idle waiting => exact ⟨rfl, .inr ⟨r, waiting, idle, rfl⟩⟩
  all_goals exact .refl s

theorem State.sendEventReport_repliesStand (s : State) : RepliesStandOrLeave s s.sendEventReport := by
  unfold State.sendEventReport
  split <;> exact ⟨rfl, .inl rfl⟩

theorem State.sendResultReport_repliesStand (s : State) : RepliesStandOrLeave s s.sendResultReport := by
  unfold State.sendResultReport
  split
  case h_1 => split <;> exact ⟨rfl, .inl rfl⟩
  all_goals exact .refl s

/-- Settles O12: the requests, the part's own events, and the other rows of the link one by one. -/
theorem everyFrameTakenGetsExactlyOneReply : Obligations.EveryFrameTakenGetsExactlyOneReply := by
  intro c s t effect noReset noCharacter
  show RepliesStandOrLeave s t ∨ FrameAnswered s t
  have answers {f : State → State} (effect : whileLive s f = .next t)
      (h : RepliesStandOrLeave s (f s) ∨ FrameAnswered s (f s)) : RepliesStandOrLeave s t ∨ FrameAnswered s t :=
    keeps_of_effect (P := fun u => RepliesStandOrLeave s u ∨ FrameAnswered s u) effect (fun _ => h) (.inl (.refl s))
  rcases instr_cases c with isRow | own | reset | linkRow
  · exact exec_requestRow_answers isRow effect
  · obtain ⟨queues, -⟩ := exec_aside own effect
    exact .inl queues.repliesStand
  · exact absurd (noReset.symm.trans reset) (by decide)
  · cases c with
    | unknownKind => exact answers effect s.answerUnknownKind_answers
    | badToken => exact answers effect s.answerBadToken_answers
    | repeatCacheMatch => exact answers effect s.answerRepeat_answers
    | goodCharacter b => exact absurd rfl (noCharacter b)
    | sendReply => exact answers effect (.inl s.sendOldestReply_repliesLeave)
    | eventReport => exact answers effect (.inl s.sendEventReport_repliesStand)
    | resultReport => exact answers effect (.inl s.sendResultReport_repliesStand)
    | frameSent =>
      exact answers (f := fun u => u.withLink { u.link with sending := none }) effect (.inl ⟨rfl, .inl rfl⟩)
    | _ => cases linkRow

end Sys2Proof.Machine
end

section
namespace Sys2Proof.Machine

/-! PROOFS. The silence of the part after reset, until a request comes (R190). -/

theorem silent_resetWith (s : State) (pins : Pins) : Silent (s.resetWith pins) :=
  (by decide : Silent State.reset)

/-- The part's own events keep the silence: nothing is subscribed, so nothing becomes report-due (R160, R190). -/
theorem Aside.silent {s t : State} (aside : Aside s t) (h : Silent s) : Silent t := by
  obtain ⟨⟨inbound, replies, -, sending⟩, stream, set, due⟩ := aside
  obtain ⟨idle, noReply, noFrame, off, stopped, noneSubscribed, noneDue⟩ := h
  refine ⟨sending.trans idle, replies.trans noReply, inbound.trans noFrame, ?_, ?_, set.trans noneSubscribed,
    fun k hk => ?_⟩
  · rw [stream stopped, off]
  · rw [stream stopped, stopped]
  · refine Bool.eq_false_iff.2 fun isDue => ?_
    rcases due k isDue with before | subscribed
    · exact absurd (before.symm.trans (noneDue k hk)) (by decide)
    · simp [EventTable.subscribed, inEventSet, noneSubscribed] at subscribed

/-- Without a frame in the inbound queue there is none to take (R179). -/
theorem Link.takes_of_no_frame {l : Link} (noFrame : l.inbound = []) : l.takes = none := by
  rw [Link.takes, noFrame]

/-- Without a frame in the inbound queue a request row has nothing to execute (R179). -/
theorem exec_requestRow_of_no_frame {c : Instr} {s t : State} (isRow : c ∈ requestRows) (noFrame : s.link.inbound = [])
    (effect : exec c s = .next t) : t = s := by
  rcases exec_requestRow_cases isRow effect with stays | ⟨f, rest, -, inbound, -⟩
  · exact stays
  · exact absurd (noFrame.symm.trans inbound) (List.cons_ne_nil f rest).symm

/-- While no kind is report-due the arbiter has none to choose (R185). -/
theorem EventTable.firstDue_eq_none {t : EventTable} (noneDue : ∀ k ∈ eventKinds, (t.get k).due = false) :
    t.firstDue = none :=
  List.find?_eq_none.2 fun k hk => Bool.eq_false_iff.1 (noneDue k hk)

/-- The other rows of the link, good characters apart, have nothing to answer and nothing to send in silence. -/
theorem exec_linkRow_of_silent {c : Instr} {s t : State} (linkRow : isLinkRow c = true)
    (noCharacter : ∀ b, c ≠ .goodCharacter b) (h : Silent s) (effect : exec c s = .next t) : t = s := by
  obtain ⟨idle, noReply, noFrame, off, -, -, noneDue⟩ := h
  have takes := Link.takes_of_no_frame noFrame
  have firstDue := EventTable.firstDue_eq_none noneDue
  have stays {f : State → State} (effect : whileLive s f = .next t) (h : f s = s) : t = s :=
    keeps_of_effect (P := fun u => u = s) effect (fun _ => h) rfl
  cases c with
  | unknownKind => exact stays effect (by rw [State.answerUnknownKind, takes])
  | badToken => exact stays effect (by rw [State.answerBadToken, takes])
  | repeatCacheMatch => exact stays effect (by rw [State.answerRepeat, takes])
  | goodCharacter b => exact absurd rfl (noCharacter b)
  | sendReply => exact stays effect (by rw [State.sendOldestReply, idle, noReply])
  | eventReport => exact stays effect (by rw [State.sendEventReport, idle, noReply, firstDue])
  | resultReport => exact stays effect (by simp [State.sendResultReport, idle, noReply, firstDue, off])
  | frameSent =>
    refine stays (f := fun u => u.withLink { u.link with sending := none }) effect ?_
    dsimp only
    rw [← idle, State.withLink_self]
  | _ => cases linkRow

/-- A good character leaves the transmitter alone (R175). -/
theorem Link.character_sending (b : Byte) (l : Link) : (l.character b).sending = l.sending := by
  unfold Link.character
  split
  case h_4 => rfl
  case h_5 =>
    unfold Link.checkFrame
    dsimp only
    split
    · rfl
    · split <;> rfl
  all_goals split <;> rfl

/-- Nothing is sent and no reply waits, and the part is silent unless a frame has come in (R190). -/
def SilentButForFrames (s : State) : Prop :=
  (s.link.inbound = [] → Silent s) ∧ s.link.sending = none ∧ s.link.replies = []

theorem Silent.butForFrames {s : State} (h : Silent s) : SilentButForFrames s := by
  obtain ⟨idle, noReply, -⟩ := id h
  exact ⟨fun _ => h, idle, noReply⟩

/-- A good character breaks the silence by no more than the frame that it completes (R175, R190). -/
theorem silent_character {s : State} (b : Byte) (h : Silent s) :
    SilentButForFrames (s.withLink (s.link.character b)) := by
  obtain ⟨idle, noReply, -, rest⟩ := h
  have sending := (Link.character_sending b s.link).trans idle
  have replies := (Link.character_replies_cache b s.link).1.trans noReply
  exact ⟨fun noFrame => ⟨sending, replies, noFrame, rest⟩, sending, replies⟩

/-- Every command but a good character keeps the silence (R190). -/
theorem exec_silent {c : Instr} {s t : State} (noCharacter : ∀ b, c ≠ .goodCharacter b) (h : Silent s)
    (effect : exec c s = .next t) : Silent t := by
  obtain ⟨-, -, noFrame, -⟩ := id h
  rcases instr_cases c with isRow | own | reset | linkRow
  · rwa [exec_requestRow_of_no_frame isRow noFrame effect]
  · exact (exec_aside own effect).silent h
  · cases c with
    | resetNLow r1 r0 => rw [← Host.Outcome.next.inj effect]; exact silent_resetWith s _
    | resetNHigh =>
      rw [← Host.Outcome.next.inj effect]
      split
      · exact silent_resetWith s _
      · exact h
    | powerUp r1 r0 => rw [← Host.Outcome.next.inj effect]; exact silent_resetWith s _
    | _ => cases reset
  · rwa [exec_linkRow_of_silent linkRow noCharacter h effect]

/-- Settles O5: a good character may bring in a frame and no more, and every other command keeps the silence. -/
theorem silentUntilARequestComes : Obligations.SilentUntilARequestComes := by
  refine ⟨by decide, fun c s t h effect => ?_⟩
  by_cases character : ∃ b, c = .goodCharacter b
  · obtain ⟨b, rfl⟩ := character
    obtain ⟨silent, idle, noReply⟩ : SilentButForFrames t :=
      keeps_of_effect (f := fun u => u.withLink (u.link.character b)) effect (fun _ => silent_character b h)
        h.butForFrames
    exact ⟨silent, fun other => absurd rfl (other b), idle, noReply⟩
  · have silent := exec_silent (fun b same => character ⟨b, same⟩) h effect
    obtain ⟨idle, noReply, -⟩ := id silent
    exact ⟨fun _ => silent, fun _ => silent, idle, noReply⟩

end Sys2Proof.Machine
end

section
namespace Sys2Proof.Machine

/-! PROOFS. The commands that wait: a step takes the front one, and what it runs leaves the others alone. -/

/-- Settles O1: the queue is not empty, so the step's match takes its front command. -/
theorem stepRunsTheFrontCommand : Obligations.StepRunsTheFrontCommand := by
  intro c rest s waits
  rw [step, waits]

/-- A command answers a next state with the same commands waiting. -/
def AnswersAndKeepsWaiting (s : State) (answer : Host.Outcome State Fault Refusal) : Prop :=
  ∃ t, answer = .next t ∧ t.pending = s.pending

/-- An effect that leaves the waiting commands alone does so on a live part, and on one held in reset nothing happens. -/
theorem answersAndKeepsWaiting_of_effect {s : State} {f : State → State} (keeps : (f s).pending = s.pending) :
    AnswersAndKeepsWaiting s (whileLive s f) := by
  rcases whileLive_cases s f with ⟨-, held⟩ | ⟨-, live⟩
  · exact ⟨s, held, rfl⟩
  · exact ⟨f s, live, keeps⟩

/-- A row whose request leaves the waiting commands alone does so: the frame it takes and the reply it queues are the
link's (R179). -/
theorem answersAndKeepsWaiting_of_row {s : State} {kind : Byte} {row : List Byte → Bool}
    {run : List Byte → State → Execution} (keeps : ∀ p u, (run p u).2.pending = u.pending) :
    AnswersAndKeepsWaiting s (whileLive s (State.serve kind row run)) := by
  refine answersAndKeepsWaiting_of_effect ?_
  rcases serve_cases kind row run s with same | ⟨f, rest, -, -, -, -, -, -, executed⟩
  · rw [same]
  · rw [executed]
    exact keeps f.payload (s.leaveInbound rest)

/-! ## The requests -/

section
variable (p : List Byte) (s : State)

/-- A check that refuses leaves it to the rest of the request whether the waiting commands are left alone. -/
theorem pending_checked {s : State} {refused : Prop} [Decidable refused] {o : ReplyOutcome} {e : Execution}
    (keeps : e.2.pending = s.pending) : (if refused then refuse o s else e).2.pending = s.pending := by
  split
  · rfl
  · exact keeps

theorem runIdentify_pending : (runIdentify p s).2.pending = s.pending := pending_checked rfl

theorem runStatus_pending : (runStatus p s).2.pending = s.pending := pending_checked rfl

theorem runRestart_pending : (runRestart p s).2.pending = s.pending := pending_checked s.stopScan_around.pending

theorem runChannelSet_pending : (runChannelSet p s).2.pending = s.pending := (runChannelSet_around p s).pending

theorem runChannelGet_pending : (runChannelGet p s).2.pending = s.pending := by
  refine pending_checked ?_
  split <;> rfl

theorem runChannelOff_pending : (runChannelOff p s).2.pending = s.pending := by
  refine pending_checked ?_
  split
  · rfl
  · exact (State.channelChanged_around _ _).pending

theorem runListClear_pending : (runListClear p s).2.pending = s.pending := pending_checked (pending_checked rfl)

theorem runListAppend_pending : (runListAppend p s).2.pending = s.pending := by
  refine pending_checked (pending_checked ?_)
  split
  · rfl
  · exact pending_checked (pending_checked rfl)

theorem runListRead_pending : (runListRead p s).2.pending = s.pending := pending_checked (pending_checked rfl)

theorem runScanSet_pending : (runScanSet p s).2.pending = s.pending := by
  refine pending_checked ?_
  split
  · rfl
  · exact pending_checked rfl

theorem runStart_pending : (runStart p s).2.pending = s.pending :=
  pending_checked (pending_checked (pending_checked rfl))

theorem runStop_pending : (runStop p s).2.pending = s.pending := pending_checked s.stopScan_around.pending

theorem State.pauseScan_pending {s t : State} (paused : s.pauseScan = some t) : t.pending = s.pending := by
  unfold State.pauseScan at paused
  split at paused
  case h_1 => split at paused <;> cases paused <;> rfl
  case h_6 | h_7 => cases paused
  all_goals cases paused; rfl

theorem runPause_pending : (runPause p s).2.pending = s.pending := by
  refine pending_checked ?_
  split
  next t paused => exact State.pauseScan_pending paused
  next => rfl

theorem State.resumePaused_pending : s.resumePaused.pending = s.pending := by
  unfold State.resumePaused
  split
  case h_4 => exact (State.takeContinuation_around _ _).pending
  all_goals rfl

theorem State.resumeScan_pending {s t : State} (resumed : s.resumeScan = some t) : t.pending = s.pending := by
  unfold State.resumeScan at resumed
  split at resumed <;> cases resumed
  · rfl
  · exact s.resumePaused_pending
  · rfl

theorem runResume_pending : (runResume p s).2.pending = s.pending := by
  refine pending_checked ?_
  split
  next t resumed => exact State.resumeScan_pending resumed
  next => rfl

theorem runTrigger_pending : (runTrigger p s).2.pending = s.pending := pending_checked s.triggerLatch_around.pending

theorem runFetch_pending : (runFetch p s).2.pending = s.pending :=
  pending_checked (pending_checked (pending_checked (State.drain_around _ _).pending))

theorem runStream_pending : (runStream p s).2.pending = s.pending := by
  refine pending_checked (pending_checked ?_)
  split <;> rfl

theorem runAck_pending : (runAck p s).2.pending = s.pending := by
  refine pending_checked (pending_checked ?_)
  split
  · exact (State.drain_around _ _).pending
  · split <;> rfl

theorem runEvents_pending : (runEvents p s).2.pending = s.pending := pending_checked (pending_checked rfl)

theorem runSubscribe_pending : (runSubscribe p s).2.pending = s.pending := pending_checked (pending_checked rfl)

theorem runTripControl_pending : (runTripControl p s).2.pending = s.pending := by
  refine pending_checked ?_
  split <;> rfl

end

/-! ## The frames answered without being executed, and the transmitter -/

section
variable (s : State)

theorem State.answerUnknownKind_pending : s.answerUnknownKind.pending = s.pending := by
  unfold State.answerUnknownKind
  split
  · split <;> rfl
  · rfl

theorem State.answerBadToken_pending : s.answerBadToken.pending = s.pending := by
  unfold State.answerBadToken
  split
  · split <;> rfl
  · rfl

theorem State.answerRepeat_pending : s.answerRepeat.pending = s.pending := by
  unfold State.answerRepeat
  split
  · split
    · split <;> rfl
    · rfl
  · rfl

theorem State.sendOldestReply_pending : s.sendOldestReply.pending = s.pending := by
  unfold State.sendOldestReply
  split <;> rfl

theorem State.sendEventReport_pending : s.sendEventReport.pending = s.pending := by
  unfold State.sendEventReport
  split <;> rfl

theorem State.sendResultReport_pending : s.sendResultReport.pending = s.pending := by
  unfold State.sendResultReport
  split
  case h_1 => split <;> rfl
  all_goals rfl

/-! ## The part's own events -/

theorem State.gapExpiry_pending : s.gapExpiry.pending = s.pending := by
  unfold State.gapExpiry
  split <;> rfl

theorem State.endZero_pending : s.endZero.pending = s.pending := by
  unfold State.endZero
  split <;> rfl

theorem State.endIntegrate_pending (input : MeanInput) : (s.endIntegrate input).pending = s.pending := by
  unfold State.endIntegrate
  split <;> rfl

/-- However a conversion completes, the sequencer takes its outcome (R35). -/
theorem State.completeConversion_pending (o : ConvOutcome) : (s.completeConversion o).pending = s.pending :=
  (State.takeOutcome_around o s.abortConversion).pending

theorem State.crossThreshold_pending : s.crossThreshold.pending = s.pending := by
  unfold State.crossThreshold
  split
  case h_1 => exact State.completeConversion_pending _ _
  all_goals rfl

theorem State.reachLimit_pending : s.reachLimit.pending = s.pending := by
  unfold State.reachLimit
  split
  case h_1 => exact State.completeConversion_pending _ _
  all_goals rfl

theorem State.settled_pending : s.settled.pending = s.pending := (State.startConversion_around _).pending

theorem State.endBreak_pending : s.endBreak.pending = s.pending := by
  unfold State.endBreak
  split
  case h_1 =>
    dsimp only
    split
    · exact State.settled_pending _
    · rfl
  all_goals rfl

theorem State.endSettle_pending : s.endSettle.pending = s.pending := by
  unfold State.endSettle
  split
  case h_1 => exact State.settled_pending _
  all_goals rfl

theorem State.railInside_pending : s.railInside.pending = s.pending := by
  unfold State.railInside
  split <;> rfl

theorem State.railTimeout_pending : s.railTimeout.pending = s.pending := by
  unfold State.railTimeout
  split
  case h_1 => exact (State.railFault_around _ _).pending
  all_goals rfl

theorem State.railDrop_pending : s.railDrop.pending = s.pending := by
  unfold State.railDrop
  split
  case h_1 => exact (State.railFault_around _ _).pending
  all_goals rfl

theorem State.holdEnds_pending : s.holdEnds.pending = s.pending := by
  unfold State.holdEnds
  split <;> rfl

theorem State.startPass_pending : s.startPass.pending = s.pending := by
  unfold State.startPass
  split
  · exact (State.takeContinuation_around _ _).pending
  · rfl

theorem State.latePass_pending : s.latePass.pending = s.pending := by
  unfold State.latePass
  split <;> rfl

theorem State.paceExpiry_pending : s.paceExpiry.pending = s.pending := by
  cases runs : s.seq.paceTimer with
  | none => rw [State.paceExpiry_of_stopped runs]
  | some g =>
    cases inside : s.withinPass with
    | true => rw [State.paceExpiry_within_pass runs inside]; exact (s.paceDue g).latePass_pending
    | false => rw [State.paceExpiry_between_passes runs inside]; rfl

theorem State.clockWrap_pending : s.clockWrap.pending = s.pending := by
  unfold State.clockWrap
  split <;> rfl

theorem State.retransmit_pending : s.retransmit.pending = s.pending := by
  unfold State.retransmit
  split
  · rfl
  · dsimp only
    split <;> rfl

end

/-! ## Every command -/

/-- Every request row answers and leaves the waiting commands alone. -/
theorem exec_requestRow_keepsWaiting {c : Instr} (s : State) (isRow : c ∈ requestRows) :
    AnswersAndKeepsWaiting s (exec c s) := by
  cases c with
  | identify => exact answersAndKeepsWaiting_of_row runIdentify_pending
  | status => exact answersAndKeepsWaiting_of_row runStatus_pending
  | restart => exact answersAndKeepsWaiting_of_row runRestart_pending
  | channelSet => exact answersAndKeepsWaiting_of_row runChannelSet_pending
  | channelGet => exact answersAndKeepsWaiting_of_row runChannelGet_pending
  | channelOff => exact answersAndKeepsWaiting_of_row runChannelOff_pending
  | listClear => exact answersAndKeepsWaiting_of_row runListClear_pending
  | listAppend => exact answersAndKeepsWaiting_of_row runListAppend_pending
  | listRead => exact answersAndKeepsWaiting_of_row runListRead_pending
  | scanSet => exact answersAndKeepsWaiting_of_row runScanSet_pending
  | start => exact answersAndKeepsWaiting_of_row runStart_pending
  | stop => exact answersAndKeepsWaiting_of_row runStop_pending
  | pause => exact answersAndKeepsWaiting_of_row runPause_pending
  | resume => exact answersAndKeepsWaiting_of_row runResume_pending
  | trigger => exact answersAndKeepsWaiting_of_row runTrigger_pending
  | fetch => exact answersAndKeepsWaiting_of_row runFetch_pending
  | streamOn | streamOff => exact answersAndKeepsWaiting_of_row runStream_pending
  | ack => exact answersAndKeepsWaiting_of_row runAck_pending
  | events => exact answersAndKeepsWaiting_of_row runEvents_pending
  | subscribe => exact answersAndKeepsWaiting_of_row runSubscribe_pending
  | modeFollow | modeLatched | clearLatch => exact answersAndKeepsWaiting_of_row runTripControl_pending
  | _ => simp [requestRows] at isRow

/-- The part's own events answer and leave the waiting commands alone. -/
theorem exec_ownEvent_keepsWaiting {c : Instr} (s : State) (own : isOwnEvent c = true) :
    AnswersAndKeepsWaiting s (exec c s) := by
  cases c with
  | damagedCharacter => exact answersAndKeepsWaiting_of_effect (f := fun u => u.withLink u.link.damaged) rfl
  | gapTimerExpiry => exact answersAndKeepsWaiting_of_effect s.gapExpiry_pending
  | trigEdge => exact answersAndKeepsWaiting_of_effect s.triggerLatch_around.pending
  | zeroEnd => exact answersAndKeepsWaiting_of_effect s.endZero_pending
  | integrateEnd input => exact answersAndKeepsWaiting_of_effect (s.endIntegrate_pending input)
  | deintegrateCrossing => exact answersAndKeepsWaiting_of_effect s.crossThreshold_pending
  | deintegrateLimit => exact answersAndKeepsWaiting_of_effect s.reachLimit_pending
  | breakEnd => exact answersAndKeepsWaiting_of_effect s.endBreak_pending
  | settleEnd => exact answersAndKeepsWaiting_of_effect s.endSettle_pending
  | railInsideWindow => exact answersAndKeepsWaiting_of_effect s.railInside_pending
  | startTimeout => exact answersAndKeepsWaiting_of_effect s.railTimeout_pending
  | drop => exact answersAndKeepsWaiting_of_effect s.railDrop_pending
  | holdExpiry => exact answersAndKeepsWaiting_of_effect s.holdEnds_pending
  | passStart => exact answersAndKeepsWaiting_of_effect s.startPass_pending
  | paceTimerExpiry => exact answersAndKeepsWaiting_of_effect s.paceExpiry_pending
  | scanClockWrap => exact answersAndKeepsWaiting_of_effect s.clockWrap_pending
  | retransmitExpiry => exact answersAndKeepsWaiting_of_effect s.retransmit_pending
  | _ => cases own

/-- Reset is taken at once and keeps the waiting commands, which are the senders' (R190, log entry 13). -/
theorem exec_resetRow_keepsWaiting {c : Instr} (s : State) (reset : isResetRow c = true) :
    AnswersAndKeepsWaiting s (exec c s) := by
  cases c with
  | resetNLow rate1 rate0 => exact ⟨_, rfl, rfl⟩
  | resetNHigh =>
    refine ⟨_, rfl, ?_⟩
    split <;> rfl
  | powerUp rate1 rate0 => exact ⟨_, rfl, rfl⟩
  | _ => cases reset

/-- The other rows of the link answer and leave the waiting commands alone. -/
theorem exec_linkRow_keepsWaiting {c : Instr} (s : State) (linkRow : isLinkRow c = true) :
    AnswersAndKeepsWaiting s (exec c s) := by
  cases c with
  | unknownKind => exact answersAndKeepsWaiting_of_effect s.answerUnknownKind_pending
  | badToken => exact answersAndKeepsWaiting_of_effect s.answerBadToken_pending
  | repeatCacheMatch => exact answersAndKeepsWaiting_of_effect s.answerRepeat_pending
  | goodCharacter b => exact answersAndKeepsWaiting_of_effect (f := fun u => u.withLink (u.link.character b)) rfl
  | sendReply => exact answersAndKeepsWaiting_of_effect s.sendOldestReply_pending
  | eventReport => exact answersAndKeepsWaiting_of_effect s.sendEventReport_pending
  | resultReport => exact answersAndKeepsWaiting_of_effect s.sendResultReport_pending
  | frameSent =>
    exact answersAndKeepsWaiting_of_effect (f := fun u => u.withLink { u.link with sending := none }) rfl
  | _ => cases linkRow

/-- Settles O2: the requests, the part's own events, the reset rows, and the other rows of the link. -/
theorem everyCommandAnswersNextAndKeepsTheQueue : Obligations.EveryCommandAnswersNextAndKeepsTheQueue := by
  intro c s
  rcases instr_cases c with isRow | own | reset | linkRow
  · exact exec_requestRow_keepsWaiting s isRow
  · exact exec_ownEvent_keepsWaiting s own
  · exact exec_resetRow_keepsWaiting s reset
  · exact exec_linkRow_keepsWaiting s linkRow

end Sys2Proof.Machine
end
